-- ==== Sys2Proof/Word.lean ====
section
/-! DEFINITION. The word types of the block: 32-bit registers of the host window and 8-bit bytes
(spec/00_scope.md rule R10). -/

namespace Sys2Proof

/-- A register of the host window: 32 bits, bit 0 least significant (R10). -/
abbrev Word := BitVec 32

/-- A byte value, 0..255 (R10). -/
abbrev Byte := BitVec 8

end Sys2Proof
end

