-- ==== Sys2Proof/Syntax.lean ====
section
/-! DEFINITION. The commands of the block, one constructor for each row of spec/opcode_table.json
(spec/30_encoding.md rule R93). -/

namespace Sys2Proof

/-- A command of the block. The two commands of format C8 carry their operand as the assembler writes
it, a number (R100); every other operand of a command is taken from a register (R92). -/
inductive Instr where
  /-- NOP (R106). -/
  | nop
  /-- CKS_INIT (R117). -/
  | cksInit
  /-- CKS_ADD b (R118). -/
  | cksAdd (b : Nat)
  /-- CKS_BUF (R119). -/
  | cksBuf
  /-- CKS_CHECK (R120). -/
  | cksCheck
  /-- CRC_INIT (R121). -/
  | crcInit
  /-- CRC_ADD b (R122). -/
  | crcAdd (b : Nat)
  /-- CRC_BUF (R123). -/
  | crcBuf
  /-- CRC_CHECK (R124). -/
  | crcCheck
  /-- START (R140). -/
  | start
  /-- STOP (R165). -/
  | stop
  /-- SEND (R183). -/
  | send
  /-- RECV (R190). -/
  | recv
  /-- REQUEST (R215). -/
  | request
  /-- MSG_POP (R216). -/
  | msgPop
  /-- L3_START (R240). -/
  | l3Start
  /-- L3_STOP (R241). -/
  | l3Stop
  /-- L3_SEND (R242). -/
  | l3Send
  /-- L3_RECV (R250). -/
  | l3Recv
  /-- L3_KEEPALIVE (R259). -/
  | l3Keepalive
deriving DecidableEq, Repr

end Sys2Proof
end

