-- ==== Sys2Proof/WellFormed.lean ====
section
/-! DEFINITION. Which commands an assembler accepts (spec/30_encoding.md rule R100). -/

namespace Sys2Proof

/-- The one check on an operand: a C8 operand b has 0 <= b <= 255, and an assembler refuses an operand
above 255 (R100). A C0 command has no operand and no check. -/
def Instr.wellFormed : Instr → Bool
  | .cksAdd b => decide (b ≤ 255)
  | .crcAdd b => decide (b ≤ 255)
  | .nop => true
  | .cksInit => true
  | .cksBuf => true
  | .cksCheck => true
  | .crcInit => true
  | .crcBuf => true
  | .crcCheck => true
  | .start => true
  | .stop => true
  | .send => true
  | .recv => true
  | .request => true
  | .msgPop => true
  | .l3Start => true
  | .l3Stop => true
  | .l3Send => true
  | .l3Recv => true
  | .l3Keepalive => true

end Sys2Proof
end

