-- ==== Sys2Proof/Decode.lean ====
section
/-! DEFINITION. The decoder of command words, total on every 32-bit word and rejecting by name, and
the encoder, both from the encoding tables of spec/30_encoding.md (rules R90 to R94, R100). -/

namespace Sys2Proof

/-- Why a word is no command. Each of them completes with IllegalCommand (R94). -/
inductive DecodeError where
  /-- OPC is unassigned (R93, R94). -/
  | unassignedOpcode
  /-- RSV is not 0 (R90, R94). -/
  | reservedBits
  /-- The format is C0 and IMM8 is not 0 (R91, R94). -/
  | operandInC0
deriving DecidableEq, Repr

/-- OPC = w[7:0] (R90). -/
def opcField (w : Word) : Byte := w.extractLsb' 0 8

/-- IMM8 = w[15:8] (R90). -/
def imm8Field (w : Word) : Byte := w.extractLsb' 8 8

/-- RSV = w[31:16] (R90). -/
def rsvField (w : Word) : BitVec 16 := w.extractLsb' 16 16

/-- A command of format C0: its IMM8 must be 0 (R91). -/
def decodeC0 (imm8 : Byte) (i : Instr) : Except DecodeError Instr :=
  if imm8 = 0 then .ok i else .error .operandInC0

/-- The opcode map of rule R93, with the formats of rule R91. -/
def decodeOpc (opc imm8 : Byte) : Except DecodeError Instr :=
  match opc.toNat with
  | 0x00 => decodeC0 imm8 .nop
  | 0x01 => decodeC0 imm8 .cksInit
  | 0x02 => .ok (.cksAdd imm8.toNat)
  | 0x03 => decodeC0 imm8 .cksBuf
  | 0x04 => decodeC0 imm8 .cksCheck
  | 0x08 => decodeC0 imm8 .crcInit
  | 0x09 => .ok (.crcAdd imm8.toNat)
  | 0x0A => decodeC0 imm8 .crcBuf
  | 0x0B => decodeC0 imm8 .crcCheck
  | 0x10 => decodeC0 imm8 .start
  | 0x11 => decodeC0 imm8 .stop
  | 0x12 => decodeC0 imm8 .send
  | 0x13 => decodeC0 imm8 .recv
  | 0x14 => decodeC0 imm8 .request
  | 0x15 => decodeC0 imm8 .msgPop
  | 0x18 => decodeC0 imm8 .l3Start
  | 0x19 => decodeC0 imm8 .l3Stop
  | 0x1A => decodeC0 imm8 .l3Send
  | 0x1B => decodeC0 imm8 .l3Recv
  | 0x1C => decodeC0 imm8 .l3Keepalive
  | _ => .error .unassignedOpcode

/-- The decoder (R94). It reads nothing but the word: no mode changes decoding (R97). -/
def decode (w : Word) : Except DecodeError Instr :=
  if rsvField w = 0 then decodeOpc (opcField w) (imm8Field w) else .error .reservedBits

/-- The opcode of a command (R93). -/
def Instr.opcode : Instr → Byte
  | .nop => 0x00
  | .cksInit => 0x01
  | .cksAdd _ => 0x02
  | .cksBuf => 0x03
  | .cksCheck => 0x04
  | .crcInit => 0x08
  | .crcAdd _ => 0x09
  | .crcBuf => 0x0A
  | .crcCheck => 0x0B
  | .start => 0x10
  | .stop => 0x11
  | .send => 0x12
  | .recv => 0x13
  | .request => 0x14
  | .msgPop => 0x15
  | .l3Start => 0x18
  | .l3Stop => 0x19
  | .l3Send => 0x1A
  | .l3Recv => 0x1B
  | .l3Keepalive => 0x1C

/-- The IMM8 field of a command's word: the operand of a C8 command, 0 otherwise (R91). -/
def Instr.imm8 : Instr → Byte
  | .cksAdd b => BitVec.ofNat 8 b
  | .crcAdd b => BitVec.ofNat 8 b
  | _ => 0

/-- The word of a well-formed command: `(b << 8) OR OPC(m)` for a C8 command, `zext_32(OPC(m))` for a
C0 command (R100). -/
def encode (i : Instr) : Word := (i.imm8.zeroExtend 32 <<< 8) ||| i.opcode.zeroExtend 32

/-- One row of spec/opcode_table.json: a word w is this row's when `w AND mask = match` (R94). -/
structure OpcodeRow where
  mnemonic : String
  mask : Word
  value : Word
deriving DecidableEq, Repr

/-- The rows of spec/opcode_table.json, in its order. -/
def opcodeTable : List OpcodeRow :=
  [⟨"NOP", 0xFFFFFFFF, 0x00000000⟩,
   ⟨"CKS_INIT", 0xFFFFFFFF, 0x00000001⟩,
   ⟨"CKS_ADD", 0xFFFF00FF, 0x00000002⟩,
   ⟨"CKS_BUF", 0xFFFFFFFF, 0x00000003⟩,
   ⟨"CKS_CHECK", 0xFFFFFFFF, 0x00000004⟩,
   ⟨"CRC_INIT", 0xFFFFFFFF, 0x00000008⟩,
   ⟨"CRC_ADD", 0xFFFF00FF, 0x00000009⟩,
   ⟨"CRC_BUF", 0xFFFFFFFF, 0x0000000A⟩,
   ⟨"CRC_CHECK", 0xFFFFFFFF, 0x0000000B⟩,
   ⟨"START", 0xFFFFFFFF, 0x00000010⟩,
   ⟨"STOP", 0xFFFFFFFF, 0x00000011⟩,
   ⟨"SEND", 0xFFFFFFFF, 0x00000012⟩,
   ⟨"RECV", 0xFFFFFFFF, 0x00000013⟩,
   ⟨"REQUEST", 0xFFFFFFFF, 0x00000014⟩,
   ⟨"MSG_POP", 0xFFFFFFFF, 0x00000015⟩,
   ⟨"L3_START", 0xFFFFFFFF, 0x00000018⟩,
   ⟨"L3_STOP", 0xFFFFFFFF, 0x00000019⟩,
   ⟨"L3_SEND", 0xFFFFFFFF, 0x0000001A⟩,
   ⟨"L3_RECV", 0xFFFFFFFF, 0x0000001B⟩,
   ⟨"L3_KEEPALIVE", 0xFFFFFFFF, 0x0000001C⟩]

/-- Does word w belong to the row (R94)? -/
def OpcodeRow.holds (r : OpcodeRow) (w : Word) : Bool := w &&& r.mask == r.value

/-- The mnemonic of a command in spec/opcode_table.json (R93). -/
def Instr.mnemonic : Instr → String
  | .nop => "NOP"
  | .cksInit => "CKS_INIT"
  | .cksAdd _ => "CKS_ADD"
  | .cksBuf => "CKS_BUF"
  | .cksCheck => "CKS_CHECK"
  | .crcInit => "CRC_INIT"
  | .crcAdd _ => "CRC_ADD"
  | .crcBuf => "CRC_BUF"
  | .crcCheck => "CRC_CHECK"
  | .start => "START"
  | .stop => "STOP"
  | .send => "SEND"
  | .recv => "RECV"
  | .request => "REQUEST"
  | .msgPop => "MSG_POP"
  | .l3Start => "L3_START"
  | .l3Stop => "L3_STOP"
  | .l3Send => "L3_SEND"
  | .l3Recv => "L3_RECV"
  | .l3Keepalive => "L3_KEEPALIVE"

/-- The instruction the decoder reads from a table row's word: bits numbered as the table numbers them
(bit 0 least significant; every command word is 32 bits, R90), the bits from nbits up taken as 0. -/
def decodeTableWord (nbits w : Nat) : Option Instr :=
  match decode (BitVec.ofNat 32 (w % 2 ^ nbits)) with
  | .ok i => some i
  | .error _ => none

end Sys2Proof
end

