-- ==== Sys2Proof/Config.lean ====
section
/-! DEFINITION. What one implementation fixes: the named constants of rule R7, the OPEN parameters of
rule R7 as one record of plain data, and the free values, which have no body. -/

namespace Sys2Proof

/-- The closed set of protocol variants, in the order of CONFIG.PROTO (R3, R24). -/
inductive Proto where
  | iso9141
  | iso14230
  | j1850
  | raw
  | vag
deriving DecidableEq, Repr, Inhabited

/-- The per-protocol timing defaults P1MAX_DEF(p), P2MIN_DEF(p), P3MIN_DEF(p) and P4MIN_DEF(p), in
milliseconds (R7, R34). -/
structure Timing where
  p1max : Nat
  p2min : Nat
  p3min : Nat
  p4min : Nat
deriving DecidableEq, Repr, Inhabited

/-- One point of the RESPLEN table: a mode byte, the PID or TID byte where the mode has one, and the
length of the whole message, `none` where the combination is BadData (R245). -/
structure RespEntry where
  mode : Byte
  pid : Option Byte
  len : Option Nat
deriving DecidableEq, Repr, Inhabited

/-- One point of a split-length function other than the default: the bytes and their length, `none`
for NONE (R200). -/
structure SplitEntry where
  bytes : List Byte
  len : Option Nat
deriving DecidableEq, Repr, Inhabited

/-- The parameter FRAMELEN9141 (R7, R200): the default taken by the spec, from the J1979 length
inference, or another function given by its points (NONE at every point not listed). -/
inductive SplitRule where
  | inferred
  | table (points : List SplitEntry)
deriving DecidableEq, Repr, Inhabited

/-- The parameter BADDATA_POLICY (R7, R248). -/
inductive BadDataPolicy where
  | keep
  | discardByte
deriving DecidableEq, Repr, Inhabited

/-- The parameters of rule R7 that the spec leaves OPEN or gives with a default only, and the platform
parameter BLOCK_BASE (R71). Durations are milliseconds. No rule fixes a value of any of them, except
the fixed points of RESPLEN, which hold whatever `respTable` lists (R245). -/
structure Params where
  blockBase : Nat
  w2max : Nat
  w3max : Nat
  w4min : Nat
  w4max : Nat
  tIdle5baud : Nat
  tIdleFast : Nat
  timing9141 : Timing
  timing14230 : Timing
  timing1850 : Timing
  timingRaw : Timing
  timingVag : Timing
  p3Ext : Nat
  j1850MaxPayload : Nat
  respTable : List RespEntry
  splitRule : SplitRule
  badData : BadDataPolicy
deriving DecidableEq, Repr, Inhabited

/-- The timing defaults of a protocol (R34). -/
def Params.timing (p : Params) : Proto → Timing
  | .iso9141 => p.timing9141
  | .iso14230 => p.timing14230
  | .j1850 => p.timing1850
  | .raw => p.timingRaw
  | .vag => p.timingVag

namespace Config

/-- KEEPALIVE_MS (R7). -/
def keepaliveMs : Nat := 3500
/-- DRAIN_MS (R7). -/
def drainMs : Nat := 5
/-- BUS_RETRY_MAX, a number of resends (R7, R213, 90_conflicts.md C2). -/
def busRetryMax : Nat := 30
/-- ISO9141_MAX_PAYLOAD (R7). -/
def iso9141MaxPayload : Nat := 7
/-- ISO9141_MIN_PAYLOAD (R7). -/
def iso9141MinPayload : Nat := 1
/-- FAST_INIT_LEN (R7). -/
def fastInitLen : Nat := 5
/-- TXCAP (R7). -/
def txCap : Nat := 64
/-- FRAME_CAP (R7). -/
def frameCap : Nat := 64
/-- MSGQ_CAP (R7). -/
def msgqCap : Nat := 16
/-- L3BUF_CAP (R7). -/
def l3bufCap : Nat := 64
/-- The size of the host window in bytes (R21, R70). -/
def windowBytes : Nat := 1024

/-- DESIGN CHOICE (log entry 3): the parameters of the machine that `State.reset` describes. No body:
nothing can be proved of a value the spec leaves OPEN (R7). -/
opaque params : Params

/-- Free value (log entry 4): what a host read returns while STATUS.BUSY = 1, where the spec says the
value is unspecified (R79). Applied to a counter of State, so that every read has a value of its own. -/
opaque busyRead : Nat → Word

/-- Free value (log entry 5): what the host reads of TXBUF[i] while the entry is unwritten (R38).
Applied to the number of resets so far and to i: the value stays the same until the next reset, since
reads are idempotent (R75). -/
opaque txUnwritten : Nat → Nat → Byte

end Config

end Sys2Proof
end

