-- ==== Sys2Proof/Machine/State.lean ====
section
/-! DEFINITION. The state of one block as plain data: the host window's registers, the buffers and the
queue, the L3 session, the hidden engine state with its named sub-states, and the model's own fields
(the events still to come, the record of L0 operations, the counters of the free values). -/

namespace Sys2Proof.Machine

/-- The link state STATUS.LINK (R23, R30). -/
inductive Link where
  | down
  | fastPending
  | up
deriving DecidableEq, Repr

/-- The error codes of STATUS.ERR (R290). The reserved codes 0x0B..0xFF have no constructor: they are
never produced. -/
inductive ErrCode where
  | ok
  | timeout
  | incompleteData
  | badData
  | wrongKeyBytes
  | busError
  | protocolNotSupported
  | noMemory
  | badLength
  | ioError
  | illegalCommand
deriving DecidableEq, Repr

/-- A message record of MSGQ (R40). -/
structure Message where
  data : List Byte
  src : Byte
  dest : Byte
  flags : BitVec 4
  ts : Word
deriving DecidableEq, Repr

/-- The error kinds an answer of the L0 port carries (R61). -/
inductive L0Err where
  | timeout
  | busError
  | ioError
deriving DecidableEq, Repr

/-- The kinds of `L0.init_bus` (R57). -/
inductive InitBusKind where
  | fiveBaud
  | fast
deriving DecidableEq, Repr

/-- The L0 operations answered by Ok or an error (R57). -/
inductive AckOp where
  | setSpeed (bps : Word)
  | flush
  | initBus (kind : InitBusKind) (address : Byte) (bytes : List Byte)
  | send (bytes : List Byte)
deriving DecidableEq, Repr

/-- The operations of the L0 port (R57). -/
inductive L0Op where
  | ack (op : AckOp)
  | getFlags
  | recv (maxLen timeoutMs : Nat)
deriving DecidableEq, Repr

/-- The answers of the L0 port (R57, R61). -/
inductive L0Answer where
  | ok
  | err (e : L0Err)
  | data (bytes : List Byte)
  | flags (f : BitVec 9)
deriving DecidableEq, Repr

/-- One entry of the event history: an L0 operation with its arguments and its answer (R62), `none`
for an operation that reset abandoned before its answer (R64). -/
structure L0Event where
  op : L0Op
  answer : Option L0Answer
deriving DecidableEq, Repr

/-- An event of one of the agents of rule R9, or of the reset input (R64). -/
inductive Input where
  /-- The tick input fires (R63). -/
  | tick
  /-- The reset input fires (R64). -/
  | reset
  /-- The engine gets to act: no rule bounds its latency (R46, R109, R338), so when it acts is an
  event of its own. -/
  | engine
  /-- The L0 device answers the operation in flight (R62). -/
  | answer (a : L0Answer)
  /-- A host read: the address in the host's space and the width in bytes (R72, R98). -/
  | hostRead (addr bytes : Nat)
  /-- A host write: address, width in bytes and data word (R72, R98). -/
  | hostWrite (addr bytes : Nat) (value : Word)
deriving DecidableEq, Repr

/-- The half-duplex arbiter state ARB (R50). -/
inductive Arb where
  | idle
  | tx
  | rx
  | init
  | ctl
deriving DecidableEq, Repr

/-- The variants of the 5-baud handshake (R146). -/
inductive KeyVariant where
  | v9141
  | v14230
  | vvag
deriving DecidableEq, Repr

/-- The initialisation that START selects (R142). -/
inductive InitKind where
  | noInit
  | fiveBaud (v : KeyVariant)
  | fast
deriving DecidableEq, Repr

/-- The commands that run `emit` (R184, R189). -/
inductive Sender where
  | send
  | request
  | l3Send
  | keepalive
deriving DecidableEq, Repr

/-- The commands that run `l2_receive` (R190, R215, R251, R260). -/
inductive Receiver where
  | recv
  | request
  | l3Framed
  | keepalive
deriving DecidableEq, Repr

/-- The commands that run the L3 byte path (R250, R260). -/
inductive ByteCaller where
  | l3Recv
  | keepalive
deriving DecidableEq, Repr

/-- A received frame not yet decoded, with the time of its first byte (R195, R209, R218). -/
structure RxFrame where
  bytes : List Byte
  ts : Word
deriving DecidableEq, Repr

/-- The scratch of the L3 byte path: who runs it, the free places it may fill and the messages sliced
so far (R250, R253). -/
structure ByteRun where
  caller : ByteCaller
  room : Nat
  produced : List Message
deriving DecidableEq, Repr

/-- Sub-states that wait for an Ok or an error (R47); the names are those of files 42 and 43. -/
inductive AckKont where
  /-- START waits for `L0.set_speed` (R143). -/
  | startSetSpeed (init : InitKind)
  /-- S5_FLUSH (R147). -/
  | s5Flush (v : KeyVariant)
  /-- S5_INIT (R147). -/
  | s5Init (v : KeyVariant)
  /-- S5_TXINV (R153). -/
  | s5TxInv (v : KeyVariant)
  /-- F_INIT: the five bytes of the transaction (R163). -/
  | fInit (bytes : List Byte)
  /-- `emit` in one operation (R189). -/
  | emitFrame (c : Sender) (frame : List Byte)
  /-- `emit` byte by byte: the frame and the bytes after the one in flight (R189). -/
  | emitByte (c : Sender) (frame rest : List Byte)
  /-- `bus_retry`: the resend, with the count that includes it (R212). -/
  | rx1850Resend (c : Receiver) (retries : Nat)
deriving DecidableEq, Repr

/-- Sub-states that wait for received bytes (R47). -/
inductive RecvKont where
  /-- S5_KB1 (R148). -/
  | s5Kb1 (v : KeyVariant)
  /-- S5_KB2 (R149). -/
  | s5Kb2 (v : KeyVariant)
  /-- S5_RXINV (R154). -/
  | s5RxInv (v : KeyVariant)
  /-- RX_WAIT_FIRST (R195). -/
  | rxWaitFirst (c : Receiver)
  /-- RX_ACCUM: the closed frames, the open frame and its timestamp (R196). -/
  | rxAccum (c : Receiver) (frames : List RxFrame) (cur : List Byte) (ts : Word)
  /-- RX_WAIT_MORE (R197). -/
  | rxWaitMore (c : Receiver) (frames : List RxFrame)
  /-- `rxraw` (R202). -/
  | rxRaw (c : Receiver)
  /-- `rx1850`: the frames so far and the resends so far (R209). -/
  | rx1850 (c : Receiver) (frames : List RxFrame) (retries : Nat)
  /-- L3_PROBE (R254). -/
  | l3Probe (p : ByteRun)
  /-- L3_NORMAL (R254). -/
  | l3Normal (p : ByteRun)
  /-- L3_DRAIN (R254). -/
  | l3Drain (p : ByteRun)
deriving DecidableEq, Repr

/-- What follows a `sleep` (R46). -/
inductive SleepKont where
  /-- S5_IDLE (R147). -/
  | s5Idle (v : KeyVariant)
  /-- S5_W4 (R153). -/
  | s5W4 (v : KeyVariant)
  /-- F_IDLE (R159). -/
  | fIdle
  /-- The gap of TP4MIN between two bytes of `emit`: the frame and the bytes still to send (R189). -/
  | emitGap (c : Sender) (frame rest : List Byte)
deriving DecidableEq, Repr

/-- The answer to an `L0.recv` (R58). -/
inductive RecvResult where
  | data (bytes : List Byte)
  | err (e : L0Err)
deriving DecidableEq, Repr

/-- ESTATE, the engine's current state (R47). An `await` state has one L0 operation in flight; an
`answered` state holds an answer the engine has not acted on yet. -/
inductive EState where
  /-- No command runs. -/
  | idle
  /-- A command word has been written to CMD and is not decoded yet (R107). -/
  | decode (w : Word)
  | awaitAck (op : AckOp) (k : AckKont)
  | awaitFlags (init : InitKind)
  | awaitRecv (maxLen timeoutMs : Nat) (k : RecvKont)
  | answeredAck (r : Option L0Err) (k : AckKont)
  | answeredFlags (f : BitVec 9) (init : InitKind)
  /-- `time` is NOW at the answer (R218). -/
  | answeredRecv (r : RecvResult) (time : Word) (k : RecvKont)
  /-- `sleep(d)` begun at NOW = t0 (R46). -/
  | sleeping (t0 : Word) (d : Nat) (k : SleepKont)
deriving DecidableEq, Repr

/-- Byte storage with addresses: a list of (address, byte) cells, addresses strictly rising. An address
not listed holds no byte: nothing has written it. TXBUF is the block's only such storage (R38, R70). -/
abbrev Memory := List Host.Cell

/-- The host-protocol violations of rule R300, for which no hardware behaviour is defined. The model
stops in a fault state named by the reason (`State.modelFault`), where it stays until the reset input:
safe, since nothing is claimed of what the hardware does there. -/
inductive Fault where
  /-- Raised by a host access that is misaligned, outside the window or not 32 bits wide (R74). Safe. -/
  | badHostAccess
  /-- Raised by any host write while STATUS.BUSY = 1 (R79). Safe. -/
  | writeWhileBusy
  /-- Raised by a command that reads TXBUF[i], i < TXLEN, not written since reset (R116). Safe. -/
  | unwrittenTxbuf
deriving DecidableEq, Repr

/-- The state of one block (R20). A field is a register of rule R21, a piece of hidden state (R47 to
R51), or, where its comment says so, the model's own. -/
structure State where
  /-- STATUS.BUSY (R23). -/
  busy : Bool
  /-- STATUS.VERIFY (R23). -/
  verify : Bool
  /-- STATUS.LINK (R23, R30). -/
  link : Link
  /-- STATUS.ERR (R23, R290). -/
  err : ErrCode
  /-- CONFIG[5:0] (R24). -/
  config : BitVec 6
  /-- ADDR[15:0] (R25). -/
  addr : BitVec 16
  /-- SPEED (R26). -/
  speed : Word
  /-- TIMEOUT[15:0] (R27). -/
  timeout : BitVec 16
  /-- L0FLAGS[8:0] (R28). -/
  l0flags : BitVec 9
  /-- FLAGS[8:0] (R29). -/
  flags : BitVec 9
  /-- KEYBYTES[15:0] (R33). -/
  keybytes : BitVec 16
  /-- TP1MAX[15:0] (R34). -/
  tp1max : BitVec 16
  /-- TP2MIN[15:0] (R34). -/
  tp2min : BitVec 16
  /-- TP3MIN[15:0] (R34). -/
  tp3min : BitVec 16
  /-- TP4MIN[15:0] (R34). -/
  tp4min : BitVec 16
  /-- CKSUM[7:0] (R35). -/
  cksum : Byte
  /-- CRCREG[7:0] (R36). -/
  crcreg : Byte
  /-- TXLEN[7:0] (R37). -/
  txlen : Byte
  /-- TXBUF[0..63] and TXW: a listed index is a written entry (R38, R51). -/
  txbuf : Memory
  /-- MSGQ, head first (R39). -/
  msgq : List Message
  /-- RETRIES[7:0] (R44). -/
  retries : Byte
  /-- NOW (R45). -/
  now : Word
  /-- L3_ACTIVE (R43). -/
  l3active : Bool
  /-- L3BUF[0..L3LEN); L3LEN is its length (R43). -/
  l3buf : List Byte
  /-- L3IDLE (R43). -/
  l3idle : Word
  /-- ESTATE, hidden (R47). -/
  estate : EState
  /-- FASTBUF, hidden (R48). -/
  fastbuf : List Byte
  /-- LASTTX, hidden; `none` is NONE (R49). -/
  lasttx : Option (List Byte)
  /-- ARB, hidden (R50). -/
  arb : Arb
  /-- The fault state of rule R300: the reason the model has stopped for, `none` while the rules of the
  block apply. Only the reset input leaves it (log entry 17). -/
  modelFault : Option Fault
  /-- The event history of L0 operations, oldest first (R62): the model's record. -/
  history : List L0Event
  /-- The model's own: the value the last host read returned. -/
  readData : Word
  /-- The model's own: the events of the agents still to come, next first. -/
  inputs : List Input
  /-- The model's own: how many free values host reads while busy have taken. -/
  freeReads : Nat
  /-- The model's own: how many resets have happened, an argument of `Config.txUnwritten`. -/
  resets : Nat
  /-- The parameters of rule R7, an argument of the model (R20); no event changes them. -/
  params : Params
deriving DecidableEq, Repr

/-- Why the model gives a step no meaning. The block refuses nothing: every command word decodes to a
command or to IllegalCommand (R301). -/
inductive Refusal where
  /-- Raised by exec for an instruction that has no meaning yet; no arm does so. Safe. -/
  | notModelled (mnemonic : String)
deriving DecidableEq, Repr

/-- The block right after reset (R65), with no event to come. The fields that are the model's own have
the values of log entry 6. -/
def State.reset : State where
  busy := false
  verify := false
  link := .down
  err := .ok
  config := 0
  addr := 0
  speed := 0
  timeout := 0
  l0flags := 0
  flags := 0
  keybytes := 0
  tp1max := 0
  tp2min := 0
  tp3min := 0
  tp4min := 0
  cksum := 0x00
  crcreg := 0xFF
  txlen := 0
  txbuf := []
  msgq := []
  retries := 0
  now := 0
  l3active := false
  l3buf := []
  l3idle := 0
  estate := .idle
  fastbuf := []
  lasttx := none
  arb := .idle
  modelFault := none
  history := []
  readData := 0
  inputs := []
  freeReads := 0
  resets := 0
  params := Config.params

end Sys2Proof.Machine
end

