-- ==== Sys2Proof/Machine/Flags.lean ====
section
/-! DEFINITION. Flag-like state (R53): the codes of STATUS.LINK and STATUS.ERR, the STATUS word, the
capability flags, the flags a driver declares, and the message flags. -/

namespace Sys2Proof.Machine

/-- The code of STATUS.LINK (R23). -/
def Link.code : Link → BitVec 2
  | .down => 0
  | .fastPending => 1
  | .up => 2

/-- The code of STATUS.ERR (R290). -/
def ErrCode.code : ErrCode → Byte
  | .ok => 0x00
  | .timeout => 0x01
  | .incompleteData => 0x02
  | .badData => 0x03
  | .wrongKeyBytes => 0x04
  | .busError => 0x05
  | .protocolNotSupported => 0x06
  | .noMemory => 0x07
  | .badLength => 0x08
  | .ioError => 0x09
  | .illegalCommand => 0x0A

/-- An L0 error propagates as the error code of the same name (R61). -/
def L0Err.toCode : L0Err → ErrCode
  | .timeout => .timeout
  | .busError => .busError
  | .ioError => .ioError

/-- STATUS from its fields: [0] BUSY, [1] VERIFY, [3:2] LINK, [15:8] ERR, the rest 0 (R23). -/
def statusOf (busy verify : Bool) (link : BitVec 2) (err : Byte) : Word :=
  (err.zeroExtend 32 <<< 8) ||| (link.zeroExtend 32 <<< 2) |||
    ((BitVec.ofBool verify).zeroExtend 32 <<< 1) ||| (BitVec.ofBool busy).zeroExtend 32

/-- The STATUS word (R23). -/
def State.status (s : State) : Word := statusOf s.busy s.verify s.link.code s.err.code

/-- STATUS while BUSY = 1: BUSY exact, VERIFY, LINK and ERR unspecified, the reserved fields 0 (R23,
R79). The three fields are taken from the free word `w`. -/
def statusWhileBusy (w : Word) : Word :=
  statusOf true (w.getLsbD 1) (w.extractLsb' 2 2) (w.extractLsb' 8 8)

/-- The capability flags, by bit position (R31). -/
inductive Cap where
  | doesL2Frame
  | doesL2Checksum
  | stripsL2Checksum
  | doesP4Wait
  | slow
  | fast
  | preferFast
  | keepalive
  | doesSlowInit
deriving DecidableEq, Repr

/-- The bit position of a capability flag (R31). -/
def Cap.bit : Cap → Nat
  | .doesL2Frame => 0
  | .doesL2Checksum => 1
  | .stripsL2Checksum => 2
  | .doesP4Wait => 3
  | .slow => 4
  | .fast => 5
  | .preferFast => 6
  | .keepalive => 7
  | .doesSlowInit => 8

/-- Is a capability flag set (R31)? -/
def hasCap (f : BitVec 9) (c : Cap) : Bool := f.getLsbD c.bit

/-- What the L0 device does, from L0FLAGS: the set the framers read (R28). -/
def State.l0Has (s : State) (c : Cap) : Bool := hasCap s.l0flags c

/-- The merged set FLAGS: the set the L3 engine reads (R29). -/
def State.has (s : State) (c : Cap) : Bool := hasCap s.flags c

/-- DECLARED(PROTO) (R32). -/
def declared : Proto → BitVec 9
  | .iso9141 => 0x007
  | .j1850 => 0x007
  | .iso14230 => 0x000
  | .raw => 0x000
  | .vag => 0x000

/-- FRAMED | DATA_ONLY | CHECKSUMMED, the flags of an ISO9141 or J1850 message (R41, R205). -/
def framedDataFlags : BitVec 4 := 0x7

/-- FRAMED, the flags of a message of the L3 byte path (R41, R249). -/
def framedFlags : BitVec 4 := 0x1

/-- The flags of a raw message and of the L3 error message (R205, R247). -/
def noFlags : BitVec 4 := 0x0

end Sys2Proof.Machine
end

