-- ==== Sys2Proof/Machine/Ops.lean ====
section
/-! DEFINITION. The shared operations: byte storage, completion of a command, issue and answer of an L0
operation, the tick, the reset input and the message queue. -/

namespace Sys2Proof.Machine

/-! ### Byte storage -/

/-- The byte at an address, `none` where nothing has written it (R38). -/
def Memory.read : Memory → Nat → Option Byte
  | [], _ => none
  | (a, b) :: m, i => if a = i then some b else Memory.read m i

/-- Writes one byte and keeps the addresses strictly rising. -/
def Memory.write : Memory → Nat → Byte → Memory
  | [], i, v => [(i, v)]
  | (a, b) :: m, i, v =>
    if i < a then (i, v) :: (a, b) :: m
    else if i = a then (a, v) :: m
    else (a, b) :: Memory.write m i v

/-- Are the addresses strictly rising and below `bound`? -/
def Memory.ordered (bound : Nat) : Memory → Bool
  | [] => true
  | [(a, _)] => decide (a < bound)
  | (a, _) :: (a', b') :: m => decide (a < a') && Memory.ordered bound ((a', b') :: m)

/-- The canonical form of TXBUF: entries by rising index, indices below TXCAP (R38). An unlisted index
holds no byte, so no entry can equal what an unlisted index reads as. -/
def Memory.wf (m : Memory) : Bool := Memory.ordered Config.txCap m

/-- TXW[i]: has the host written entry i since reset (R51)? -/
def State.txw (s : State) (i : Nat) : Bool := (s.txbuf.read i).isSome

/-! ### Completion -/

/-- The one way a command ends, by `done()` (e = OK) or `fail(e)` (R295, R296): ERR takes the code,
ESTATE becomes IDLE and BUSY 0, all at once for the host (R78). Nothing is rolled back, control goes
nowhere and nothing is saved: the block has no trap entry and no return (R299). -/
def State.complete (s : State) (e : ErrCode) : State :=
  { s with err := e, estate := .idle, busy := false }

/-- The word was no command: IllegalCommand, and no other state changes (R94). -/
def State.illegalWord (s : State) : State := s.complete .illegalCommand

/-- The command word the engine has still to decode (R107): what stands for instruction fetch. -/
def State.fetch (s : State) : Option Word :=
  match s.estate with
  | .decode w => some w
  | _ => none

/-! ### L0 operations -/

/-- The arbiter state while an operation is in flight (R50, R180). -/
def AckOp.arb : AckOp → Arb
  | .setSpeed _ => .ctl
  | .flush => .ctl
  | .initBus .fiveBaud _ _ => .init
  | .initBus .fast _ _ => .tx
  | .send _ => .tx

/-- Issues an operation answered by Ok or an error (R180). -/
def State.issueAck (s : State) (op : AckOp) (k : AckKont) : State :=
  { s with estate := .awaitAck op k, arb := op.arb }

/-- Issues `L0.get_flags` (R143, R180). -/
def State.issueFlags (s : State) (init : InitKind) : State :=
  { s with estate := .awaitFlags init, arb := .ctl }

/-- Issues `L0.recv(maxLen, timeoutMs)` (R58, R180). -/
def State.issueRecv (s : State) (maxLen timeoutMs : Nat) (k : RecvKont) : State :=
  { s with estate := .awaitRecv maxLen timeoutMs k, arb := .rx }

/-- May this operation answer this error? `L0.send` answers IOError or BusError only (R59); the others
any of the three (R57, R61). -/
def AckOp.mayFail : AckOp → L0Err → Bool
  | .send _, .timeout => false
  | _, _ => true

/-- ARB returns to IDLE at the answer, and the operation joins the event history (R62). -/
def State.settle (s : State) (op : L0Op) (a : L0Answer) (next : EState) : State :=
  { s with estate := next, arb := .idle, history := s.history ++ [⟨op, some a⟩] }

/-- The L0 device answers the operation in flight. An answer that the operation's contract does not
admit (R58, R59, R308), or that comes when no operation is in flight (R64), is discarded. -/
def State.answer (s : State) (a : L0Answer) : State :=
  match s.estate, a with
  | .awaitAck op k, .ok => s.settle (.ack op) .ok (.answeredAck none k)
  | .awaitAck op k, .err e =>
    if op.mayFail e then s.settle (.ack op) (.err e) (.answeredAck (some e) k) else s
  | .awaitFlags init, .flags f => s.settle .getFlags (.flags f) (.answeredFlags f init)
  | .awaitRecv m t k, .data bs =>
    if 1 ≤ bs.length ∧ bs.length ≤ m then
      s.settle (.recv m t) (.data bs) (.answeredRecv (.data bs) s.now k)
    else s
  | .awaitRecv m t k, .err e =>
    s.settle (.recv m t) (.err e) (.answeredRecv (.err e) s.now k)
  | _, _ => s

/-- The L0 operation in flight, if there is one (R180). -/
def EState.inFlight : EState → Option L0Op
  | .awaitAck op _ => some (.ack op)
  | .awaitFlags _ => some .getFlags
  | .awaitRecv m t _ => some (.recv m t)
  | _ => none

/-- The arbiter state that an engine state goes with (R50): IDLE unless an operation is in flight. -/
def EState.arb : EState → Arb
  | .awaitAck op _ => op.arb
  | .awaitFlags _ => .ctl
  | .awaitRecv _ _ _ => .rx
  | _ => .idle

/-! ### Time and reset -/

/-- The tick input: NOW <- (NOW + 1) mod 2^32 (R45). -/
def State.tick (s : State) : State := { s with now := s.now + 1 }

/-- Has `sleep(d)` begun at t0 lasted long enough (R46)? -/
def slept (now t0 : Word) (d : Nat) : Bool := decide (d ≤ (now - t0).toNat)

/-- The reset input (R320): every piece of state takes its reset value, an operation in flight is
abandoned, and no operation is issued. The record of the wire traffic stays, since what reached the
wire is not undone (R321), and so do the model's own fields; the reset is counted. -/
def State.resetBlock (s : State) : State :=
  { State.reset with
    history := match s.estate.inFlight with
      | some op => s.history ++ [⟨op, none⟩]
      | none => s.history
    readData := s.readData
    inputs := s.inputs
    freeReads := s.freeReads
    resets := s.resets + 1
    params := s.params }

/-! ### Model faults -/

/-- A host-protocol violation stops the model in the fault state that its reason names (R300); every
other outcome stays as it is. `s` is the state at the violation. -/
def State.stopAt (s : State) : Host.Outcome State Fault Refusal → Host.Outcome State Fault Refusal
  | .next t => .next t
  | .fault f => .next { s with modelFault := some f }
  | .refused r => .refused r

/-- What an event does while the model is stopped: the reset input puts the block into its reset state,
and no rule gives any other event an effect (R300, log entry 17). -/
def State.whileStopped (s : State) : Input → State
  | .reset => s.resetBlock
  | .tick => s
  | .engine => s
  | .answer _ => s
  | .hostRead _ _ => s
  | .hostWrite _ _ _ => s

/-! ### The message queue -/

/-- `append_msgs` (R217): all of the messages or, where they do not all fit, none and NoMemory. -/
def State.appendMsgs (s : State) (msgs : List Message) : Option State :=
  if s.msgq.length + msgs.length > Config.msgqCap then none
  else some { s with msgq := s.msgq ++ msgs }

end Sys2Proof.Machine
end

