-- ==== Sys2Proof/Machine/Operands.lean ====
section
/-! DEFINITION. The operands of the commands, each taken from a register (R92): the fields of CONFIG and
ADDR, the bytes of TXBUF, and the two receive time-outs computed from the timing registers. -/

namespace Sys2Proof.Machine

/-- CONFIG.PROTO, `none` for the reserved values 5 to 7 (R24). -/
def State.proto (s : State) : Option Proto :=
  match (s.config.extractLsb' 0 3).toNat with
  | 0 => some .iso9141
  | 1 => some .iso14230
  | 2 => some .j1850
  | 3 => some .raw
  | 4 => some .vag
  | _ => none

/-- CONFIG.INIT: 0 NONE, 1 SLOW, 2 FAST, 3 reserved (R24). -/
def State.initMode (s : State) : BitVec 2 := s.config.extractLsb' 3 2

/-- CONFIG.J1850_PWM (R24). -/
def State.j1850Pwm (s : State) : Bool := s.config.getLsbD 5

/-- ADDR.TARGET (R25). -/
def State.target (s : State) : Byte := s.addr.extractLsb' 0 8

/-- ADDR.SOURCE (R25). -/
def State.source (s : State) : Byte := s.addr.extractLsb' 8 8

/-- KEYBYTES[7:0], key byte 1 (R33). -/
def State.kb1 (s : State) : Byte := s.keybytes.extractLsb' 0 8

/-- KEYBYTES[15:8], key byte 2 (R33). -/
def State.kb2 (s : State) : Byte := s.keybytes.extractLsb' 8 8

/-- TIMEOUT[15:0] in milliseconds (R27). -/
def State.timeoutMs (s : State) : Nat := s.timeout.toNat

/-- T_ib, the inter-byte timeout: max(TP1MAX, TP2MIN - 2) in signed arithmetic (R192). -/
def State.tIb (s : State) : Nat :=
  (max (s.tp1max.toNat : Int) ((s.tp2min.toNat : Int) - 2)).toNat

/-- T_3, the wait-for-more-frames timeout (R193). -/
def State.t3 (s : State) : Nat :=
  s.tp3min.toNat + if s.l0Has .doesL2Frame then s.params.p3Ext else 0

/-- What reading the TXBUF operand gives (R116). -/
inductive TxBytes where
  /-- TXLEN is above TXCAP: BadLength. -/
  | tooLong
  /-- An entry below TXLEN is unwritten: ModelFault(UnwrittenTxbuf). -/
  | unwritten
  | bytes (bs : List Byte)
deriving DecidableEq, Repr

/-- The bytes at the n indices from i on, `none` if one of them is unwritten. -/
def Memory.readRange (m : Memory) : Nat → Nat → Option (List Byte)
  | _, 0 => some []
  | i, n + 1 =>
    match m.read i, Memory.readRange m (i + 1) n with
    | some b, some bs => some (b :: bs)
    | _, _ => none

/-- `txbytes()` (R116). -/
def State.txbytes (s : State) : TxBytes :=
  if s.txlen.toNat > Config.txCap then .tooLong
  else
    match s.txbuf.readRange 0 s.txlen.toNat with
    | some bs => .bytes bs
    | none => .unwritten

end Sys2Proof.Machine
end

