-- ==== Sys2Proof/Machine/Checksum.lean ====
section
/-! DEFINITION. The checksum and CRC generator (spec/41_checksum_crc.md): the two pure functions the
framers use (R110, R114) and the eight commands that expose them (R117 to R124). -/

namespace Sys2Proof.Machine

/-! ### The two algorithms -/

/-- `checksum(s)`: the sum of the bytes mod 256 (R110). -/
def checksum (s : List Byte) : Byte := BitVec.ofNat 8 (s.map BitVec.toNat).sum

/-- `crc_step(c, x)`: one data bit into the running register, generator 0x1D (R112; 90_conflicts.md C1
chooses this form over the source's literal table). -/
def crcStep (c : Byte) (x : Bool) : Byte :=
  if (c.getLsbD 7 ^^ x) then (c <<< 1) ^^^ 0x1D else c <<< 1

/-- `poly(c[7], x)` of the per-bit table (R113). -/
def crcPoly : Bool → Bool → Byte
  | false, false => 0x00
  | false, true => 0x1C
  | true, false => 0x1D
  | true, true => 0x01

/-- The per-bit table form of `crc_step`, corrected as C1 says (R113). -/
def crcStepTable (c : Byte) (x : Bool) : Byte :=
  ((c <<< 1) ||| (BitVec.ofBool x).zeroExtend 8) ^^^ crcPoly (c.getLsbD 7) x

/-- `crc_byte(c, b)`: the 8 bits of b, most significant first (R114). -/
def crcByte (c b : Byte) : Byte :=
  [7, 6, 5, 4, 3, 2, 1, 0].foldl (fun c j => crcStep c (b.getLsbD j)) c

/-- The running register after a byte sequence fed into register c (R114, R115). -/
def crcFrom (c : Byte) (s : List Byte) : Byte := s.foldl crcByte c

/-- `crc_reg(s)`: from the seed 0xFF (R114). -/
def crcReg (s : List Byte) : Byte := crcFrom 0xFF s

/-- `crc8(s)`: the register inverted (R114). -/
def crc8 (s : List Byte) : Byte := ~~~(crcReg s)

/-- Is the last byte of a non-empty sequence what `f` gives for the bytes before it (R120, R124)? -/
def lastByteIs (f : List Byte → Byte) (bs : List Byte) : Bool :=
  match bs.getLast? with
  | some x => x == f bs.dropLast
  | none => false

/-! ### The buffer operand -/

/-- Runs `k` on the bytes of TXBUF, or reports what rule R116 says of them: BadLength, or the fault. -/
def State.onTxBytes (s : State) (k : List Byte → State) : Host.Outcome State Fault Refusal :=
  match s.txbytes with
  | .tooLong => .next (s.complete .badLength)
  | .unwritten => .fault .unwrittenTxbuf
  | .bytes bs => .next (k bs)

/-! ### The commands -/

/-- CKS_INIT (R117). -/
def execCksInit (s : State) : Host.Outcome State Fault Refusal :=
  .next ({ s with cksum := 0x00 }.complete .ok)

/-- CKS_ADD b (R118). -/
def execCksAdd (b : Nat) (s : State) : Host.Outcome State Fault Refusal :=
  .next ({ s with cksum := s.cksum + BitVec.ofNat 8 b }.complete .ok)

/-- CKS_BUF (R119). -/
def execCksBuf (s : State) : Host.Outcome State Fault Refusal :=
  s.onTxBytes fun bs => { s with cksum := s.cksum + checksum bs }.complete .ok

/-- CKS_CHECK (R120). -/
def execCksCheck (s : State) : Host.Outcome State Fault Refusal :=
  s.onTxBytes fun bs => { s with verify := lastByteIs checksum bs }.complete .ok

/-- CRC_INIT (R121). -/
def execCrcInit (s : State) : Host.Outcome State Fault Refusal :=
  .next ({ s with crcreg := 0xFF }.complete .ok)

/-- CRC_ADD b (R122). -/
def execCrcAdd (b : Nat) (s : State) : Host.Outcome State Fault Refusal :=
  .next ({ s with crcreg := crcByte s.crcreg (BitVec.ofNat 8 b) }.complete .ok)

/-- CRC_BUF (R123). -/
def execCrcBuf (s : State) : Host.Outcome State Fault Refusal :=
  s.onTxBytes fun bs => { s with crcreg := crcFrom s.crcreg bs }.complete .ok

/-- CRC_CHECK (R124). -/
def execCrcCheck (s : State) : Host.Outcome State Fault Refusal :=
  s.onTxBytes fun bs => { s with verify := lastByteIs crc8 bs }.complete .ok

end Sys2Proof.Machine
end

