-- ==== Sys2Proof/Machine/BusInit.lean ====
section
/-! DEFINITION. The bus initialisation machines and the parts of START and of the fast-init transaction
that act on an answer (spec/42_link_init.md rules R141 to R164). -/

namespace Sys2Proof.Machine

/-- The table of legal (PROTO, INIT) pairs: `none` is ProtocolNotSupported (R141, R142). -/
def selectInit (proto : Option Proto) (init : BitVec 2) : Option InitKind :=
  match proto, init.toNat with
  | none, _ => none
  | _, 3 => none
  | some .j1850, _ => some .noInit
  | some .raw, _ => some .noInit
  | some .iso9141, 1 => some (.fiveBaud .v9141)
  | some .iso14230, 1 => some (.fiveBaud .v14230)
  | some .iso14230, 2 => some .fast
  | some .vag, 1 => some (.fiveBaud .vvag)
  | _, _ => none

/-- `fail5(e)`, and every other failure of a START or of the fast-init transaction: the link is DOWN
(R143, R144, R156, R164). -/
def failDown (s : State) (e : ErrCode) : State := { s with link := .down }.complete e

/-- The link is UP and the command ends (R145, R155). -/
def linkUp (s : State) : State := { s with link := .up }.complete .ok

/-- START waits for `set_speed`, the registers of the old connection cleared (R143). -/
def startPrologue (s : State) (init : InitKind) : State :=
  { s with keybytes := 0, fastbuf := [], lasttx := none }.issueAck (.setSpeed s.speed)
    (.startSetSpeed init)

/-- START acts on the answer to `set_speed` (R143). -/
def onSetSpeed (s : State) (init : InitKind) : Option L0Err → State
  | none => s.issueFlags init
  | some e => failDown s e.toCode

/-- The registers that START loads from the L0 flags and the protocol's defaults (R143). -/
def loadConnection (s : State) (f : BitVec 9) : State :=
  match s.proto with
  | some p =>
    { s with
      l0flags := f
      flags := f ||| declared p
      tp1max := BitVec.ofNat 16 (s.params.timing p).p1max
      tp2min := BitVec.ofNat 16 (s.params.timing p).p2min
      tp3min := BitVec.ofNat 16 (s.params.timing p).p3min
      tp4min := BitVec.ofNat 16 (s.params.timing p).p4min }
  | none => { s with l0flags := f, flags := f }

/-- F_PENDING (R160). -/
def enterFastPending (s : State) : State :=
  { s with fastbuf := [], link := .fastPending }.complete .ok

/-- S5_INIT issues the 5-baud address (R147). -/
def enterS5Init (s : State) (v : KeyVariant) : State :=
  s.issueAck (.initBus .fiveBaud s.target []) (.s5Init v)

/-- S5_TXINV issues the inverted key byte 2 (R153). -/
def enterS5TxInv (s : State) (v : KeyVariant) : State :=
  s.issueAck (.send [~~~s.kb2]) (.s5TxInv v)

/-- S5_INIT acts on its answer (R147): S5_KB1 reads key byte 1 within W2MAX (R148). -/
def onS5Init (s : State) (v : KeyVariant) : Option L0Err → State
  | none => s.issueRecv 1 s.params.w2max (.s5Kb1 v)
  | some e => failDown s e.toCode

/-- KEYBYTES[7:0] takes key byte 1, and S5_KB2 reads key byte 2 within W3MAX (R148, R149). -/
def onS5Kb1 (s : State) (v : KeyVariant) : RecvResult → State
  | .data d =>
    { s with keybytes := s.kb2 ++ d.getD 0 0 }.issueRecv 1 s.params.w3max (.s5Kb2 v)
  | .err e => failDown s e.toCode

/-- `kb_ok(v, k1, k2)` (R151). -/
def kbOk : KeyVariant → Byte → Byte → Bool
  | .v9141, k1, k2 => k1 == k2 && (k1 == 0x08 || k1 == 0x94)
  | .v14230, _, _ => true
  | .vvag, k1, k2 => k1 == 0x01 && k2 == 0x8A

/-- The P2MIN refinement of S5_P2, keyed on key byte 1 (R152). -/
def refineP2 (s : State) : State :=
  if s.kb1 = 0x08 then { s with tp2min := 25 }
  else if s.kb1 = 0x94 then { s with tp2min := 0 }
  else s

/-- S5_TXINV acts on its answer (R153): S5_RXINV reads the inverted address within W4MAX (R154). -/
def onS5TxInv (s : State) (v : KeyVariant) : Option L0Err → State
  | none => s.issueRecv 1 s.params.w4max (.s5RxInv v)
  | some e => failDown s e.toCode

/-- S5_RXINV acts on its answer, and S5_DONE (R154, R155). -/
def onS5RxInv (s : State) : RecvResult → State
  | .data d => if d.getD 0 0 = ~~~s.target then linkUp s else failDown s .wrongKeyBytes
  | .err e => failDown s e.toCode

/-- F_INIT issues the one transaction with the five bytes (R163). -/
def enterFInit (s : State) (bs : List Byte) : State :=
  { s with fastbuf := [] }.issueAck (.initBus .fast s.target bs) (.fInit bs)

/-- F_ACCUM: the bytes of a SEND while the link is FAST_PENDING (R162). -/
def fastAccum (s : State) (bs : List Byte) : State :=
  if bs.length = 0 then s.complete .badLength
  else if s.fastbuf.length + bs.length > Config.fastInitLen then s.complete .badLength
  else if s.fastbuf.length + bs.length < Config.fastInitLen then
    { s with fastbuf := s.fastbuf ++ bs }.complete .ok
  else enterFInit s (s.fastbuf ++ bs)

/-- F_INIT acts on its answer (R163, R164). -/
def onFInit (s : State) (bs : List Byte) : Option L0Err → State
  | none => linkUp { s with lasttx := some bs }
  | some e => failDown s e.toCode

end Sys2Proof.Machine
end

