-- ==== Sys2Proof/Machine/Length.lean ====
section
/-! DEFINITION. The J1979 length inference (spec/44_l3_session.md rules R243 to R246). -/

namespace Sys2Proof.Machine

/-- What `expected_length` returns (R243). -/
inductive LenResult where
  | ok (n : Nat)
  | incomplete
  | bad
deriving DecidableEq, Repr

/-- REQLEN, by the mode byte as a number, 1 to 9 (R244). -/
def reqLen : Nat → Option Nat
  | 1 => some 6
  | 2 => some 7
  | 3 => some 5
  | 4 => some 5
  | 5 => some 6
  | 6 => some 6
  | 7 => some 5
  | 8 => some 11
  | 9 => some 6
  | _ => none

/-- The response modes whose length depends on the PID or TID byte (R243). -/
def pidMode (mode : Byte) : Bool := mode == 0x41 || mode == 0x42 || mode == 0x45 || mode == 0x49

/-- The bound on every RESPLEN value: Ok(L) has 5 <= L <= L3BUF_CAP, anything else is BadData
(R245 (b)). -/
def boundedLen : Option Nat → LenResult
  | some n => if 5 ≤ n ∧ n ≤ Config.l3bufCap then .ok n else .bad
  | none => .bad

/-- RESPLEN(mode, pid): the three fixed points of rule R245 (a) first, every other point from the
parameter table, BadData where the table lists none. -/
def respLen (p : Params) (mode : Byte) (pid : Option Byte) : LenResult :=
  if mode = 0x41 ∧ pid = some 0x00 then .ok 10
  else if mode = 0x42 ∧ pid = some 0x02 then .ok 8
  else if mode = 0x41 ∧ pid = some 0x02 then .bad
  else
    match p.respTable.find? fun e => e.mode == mode && e.pid == pid with
    | some e => boundedLen e.len
    | none => .bad

/-- `expected_length(b)` (R243): the mode byte is b[3], the PID byte b[4]. -/
def expectedLength (p : Params) (b : List Byte) : LenResult :=
  match b[3]? with
  | none => .incomplete
  | some mode =>
    match reqLen mode.toNat with
    | some n => .ok n
    | none =>
      if 0x41 ≤ mode.toNat ∧ mode.toNat ≤ 0x49 then
        if pidMode mode then
          match b[4]? with
          | none => .incomplete
          | some pid => respLen p mode (some pid)
        else respLen p mode none
      else .bad

end Sys2Proof.Machine
end

