-- ==== Sys2Proof/Machine/Reassembly.lean ====
section
/-! DEFINITION. The J1979 byte-frame reassembly and the byte path of the L3 receive machine
(spec/44_l3_session.md rules R247 to R255). -/

namespace Sys2Proof.Machine

/-- `l3msg(p)`: all the bytes, unchecked (R249). -/
def l3msg (p : List Byte) (ts : Word) : Message where
  data := p
  src := p.getD 2 0
  dest := p.getD 1 0
  flags := framedFlags
  ts := ts

/-- The zero-length message that a BadData verdict appends (R247). -/
def l3errMsg (ts : Word) : Message where
  data := []
  src := 0x00
  dest := 0x00
  flags := noFlags
  ts := ts

/-- What `reassemble` leaves: the messages in order, the bytes still in L3BUF, and whether the verdict
is BadData (R247). -/
structure Reassembled where
  out : List Message
  buf : List Byte
  bad : Bool
deriving DecidableEq, Repr

/-- What stays in L3BUF after a BadData verdict (R248). -/
def afterBadData (p : Params) (buf : List Byte) : List Byte :=
  match p.badData with
  | .keep => buf
  | .discardByte => buf.drop 1

/-- `reassemble(room)` on the bytes of L3BUF at time `now` (R247). Every turn of the loop but the last
takes one place of `room`. -/
def reassemble (p : Params) (now : Word) : Nat → List Byte → Reassembled
  | 0, buf => ⟨[], buf, false⟩
  | room + 1, buf =>
    match expectedLength p buf with
    | .incomplete => ⟨[], buf, false⟩
    | .bad => ⟨[l3errMsg now], afterBadData p buf, true⟩
    | .ok n =>
      if n > buf.length then ⟨[], buf, false⟩
      else
        let r := reassemble p now room (buf.drop n)
        ⟨l3msg (buf.take n) now :: r.out, r.buf, r.bad⟩

/-- The reassembly part of `step(r)`: the state with the bytes that stay, the run with the messages
produced, and whether the verdict is BadData (R253). -/
def byteStep (s : State) (p : ByteRun) : State × ByteRun × Bool :=
  let r := reassemble s.params s.now (p.room - p.produced.length) s.l3buf
  ({ s with l3buf := r.buf }, { p with produced := p.produced ++ r.out }, r.bad)

/-- The bytes of a read join L3BUF and reset the idle time (R253). -/
def State.takeBytes (s : State) (d : List Byte) : State :=
  { s with l3buf := s.l3buf ++ d, l3idle := s.now }

/-- `finish(v)`: L3_RECV appends what was produced, whatever the verdict (R255); the keepalive drops it
(R260). -/
def byteFinish (s : State) (p : ByteRun) (e : ErrCode) : State :=
  match p.caller with
  | .l3Recv => { s with msgq := s.msgq ++ p.produced }.complete e
  | .keepalive => s.complete e

/-- `l3_read(t)`: ProtocolNotSupported on VAG and Timeout on a full L3BUF, both without an L0 operation
and handled by `onErr`; otherwise the read, bounded by the free space (R253). -/
def l3Read (s : State) (t : Nat) (k : RecvKont) (onErr : ErrCode → State) : State :=
  if s.proto = some .vag then onErr .protocolNotSupported
  else if s.l3buf.length ≥ Config.l3bufCap then onErr .timeout
  else s.issueRecv (Config.l3bufCap - s.l3buf.length) t k

/-- What L3_DRAIN does with an error: a Timeout ends it, with success where a message was produced in
this command (R254). -/
def drainError (s : State) (p : ByteRun) (e : ErrCode) : State :=
  if e = .timeout ∧ p.produced ≠ [] then byteFinish s p .ok else byteFinish s p e

/-- Enters L3_DRAIN (R254). -/
def enterDrain (s : State) (p : ByteRun) : State :=
  l3Read s Config.drainMs (.l3Drain p) (drainError s p)

/-- Enters L3_NORMAL; every error ends it (R254). -/
def enterNormal (s : State) (p : ByteRun) : State :=
  l3Read s s.timeoutMs (.l3Normal p) (byteFinish s p)

/-- L3_PROBE after the read, with the bytes taken if there were any: reassemble, finish on BadData or on
a message, else L3_NORMAL (R254). -/
def probeStep (s : State) (p : ByteRun) : State :=
  match byteStep s p with
  | (s', p', true) => byteFinish s' p' .badData
  | (s', p', false) => if p'.produced ≠ [] then byteFinish s' p' .ok else enterNormal s' p'

/-- What L3_PROBE does with an error: a Timeout still reassembles, any other ends the command (R253,
R254). -/
def probeError (s : State) (p : ByteRun) (e : ErrCode) : State :=
  if e = .timeout then probeStep s p else byteFinish s p e

/-- Enters L3_PROBE with a zero time-out (R254). -/
def enterProbe (s : State) (p : ByteRun) : State :=
  l3Read s 0 (.l3Probe p) (probeError s p)

/-- L3_PROBE acts on its answer (R254). -/
def onL3Probe (s : State) (p : ByteRun) : RecvResult → State
  | .data d => probeStep (s.takeBytes d) p
  | .err e => probeError s p e.toCode

/-- L3_NORMAL acts on its answer: a Timeout fails, bytes are reassembled, and without a message the
machine goes to L3_DRAIN (R254). -/
def onL3Normal (s : State) (p : ByteRun) : RecvResult → State
  | .data d =>
    match byteStep (s.takeBytes d) p with
    | (s', p', true) => byteFinish s' p' .badData
    | (s', p', false) => if p'.produced ≠ [] then byteFinish s' p' .ok else enterDrain s' p'
  | .err e => byteFinish s p e.toCode

/-- L3_DRAIN acts on its answer: bytes are reassembled and the machine stays in L3_DRAIN (R254). -/
def onL3Drain (s : State) (p : ByteRun) : RecvResult → State
  | .data d =>
    match byteStep (s.takeBytes d) p with
    | (s', p', true) => byteFinish s' p' .badData
    | (s', p', false) => enterDrain s' p'
  | .err e => drainError s p e.toCode

end Sys2Proof.Machine
end

