-- ==== Sys2Proof/Machine/Framer.lean ====
section
/-! DEFINITION. The framers of spec/43_link_transfer.md: building a frame to send (R185 to R187),
decoding received ISO9141 frames with the misframing split (R198 to R200) and J1850 frames (R210). -/

namespace Sys2Proof.Machine

/-! ### Frames to send -/

/-- `frame9141(s)` (R185). -/
def frame9141 (st : State) (s : List Byte) : Except ErrCode (List Byte) :=
  if s.length < Config.iso9141MinPayload ∨ s.length > Config.iso9141MaxPayload then
    .error .badLength
  else
    let f := [0x68, 0x6A, st.source] ++ s
    .ok (if st.l0Has .doesL2Checksum then f else f ++ [checksum f])

/-- `frame1850(s)` (R186). -/
def frame1850 (st : State) (s : List Byte) : Except ErrCode (List Byte) :=
  if s.length < 1 ∨ s.length > st.params.j1850MaxPayload then .error .badLength
  else
    let f := [if st.j1850Pwm then 0x61 else 0x68, st.target, st.source] ++ s
    .ok (if st.l0Has .doesL2Checksum then f else f ++ [crc8 f])

/-- `frameraw(s)` (R187). -/
def frameRaw (s : List Byte) : Except ErrCode (List Byte) :=
  if s.length < 1 then .error .badLength else .ok s

/-- The framer that `l2_send_bytes` dispatches to (R184). VAG has none (R188); the reserved PROTO values
cannot occur on a link that is not DOWN (R141), and are answered as VAG is (log entry 12). -/
def frameFor (st : State) (s : List Byte) : Except ErrCode (List Byte) :=
  match st.proto with
  | some .iso9141 => frame9141 st s
  | some .j1850 => frame1850 st s
  | some .raw => frameRaw s
  | some .iso14230 => frameRaw s
  | some .vag => .error .protocolNotSupported
  | none => .error .protocolNotSupported

/-! ### ISO9141 frames received -/

/-- The number of checksum or CRC bytes a received frame still carries: `cl` (R199, R210). -/
def State.checkLen (st : State) : Nat := if st.l0Has .stripsL2Checksum then 0 else 1

/-- FRAMELEN9141(p): the default of rule R200, or the function the parameter lists by its points. -/
def frameLen9141 (st : State) (p : List Byte) : Option Nat :=
  match st.params.splitRule with
  | .inferred =>
    match expectedLength st.params p with
    | .ok n => some (if st.l0Has .stripsL2Checksum then n - 1 else n)
    | .incomplete => none
    | .bad => none
  | .table points =>
    match points.find? fun e => e.bytes == p with
    | some e => e.len
    | none => none

/-- A frame's message: bytes 3 up to the checksum, source and destination from the header (R199,
R210). -/
def strippedMsg (cl : Nat) (p : List Byte) (ts : Word) : Message where
  data := (p.take (p.length - cl)).drop 3
  src := p.getD 2 0
  dest := p.getD 1 0
  flags := framedDataFlags
  ts := ts

/-- `check9141(p, ts)`: `none` is BadData (R199). -/
def check9141 (st : State) (p : List Byte) (ts : Word) : Option Message :=
  let cl := st.checkLen
  if p.length < 4 + cl then none
  else if p.getD 0 0 ≠ 0x48 ∨ p.getD 1 0 ≠ 0x6B then none
  else if cl = 1 ∧ lastByteIs checksum p = false then none
  else some (strippedMsg cl p ts)

/-- The length of the first piece of `rest`: the split length where it is a proper prefix (R198). -/
def pieceLen (st : State) (rest : List Byte) : Nat :=
  match frameLen9141 st rest with
  | some k => if 1 ≤ k ∧ k < rest.length then k else rest.length
  | none => rest.length

/-- The loop of `decode9141` over one frame (R198). `rest` gets shorter at every split, so one more
than its length is enough fuel, and the first equation is never reached. -/
def splitFrame (st : State) (ts : Word) : Nat → List Byte → Option (List Message)
  | 0, _ => some []
  | fuel + 1, rest =>
    let k := pieceLen st rest
    match check9141 st (rest.take k) ts with
    | none => none
    | some m =>
      if rest.drop k = [] then some [m]
      else
        match splitFrame st ts fuel (rest.drop k) with
        | none => none
        | some ms => some (m :: ms)

/-- `decode9141(frames)`: `none` is BadData (R198). -/
def decode9141 (st : State) : List RxFrame → Option (List Message)
  | [] => some []
  | f :: fs =>
    match splitFrame st f.ts (f.bytes.length + 1) f.bytes, decode9141 st fs with
    | some ms, some rest => some (ms ++ rest)
    | _, _ => none

/-! ### J1850 frames received -/

/-- One frame of `decode1850`: `none` is BadData; the format byte is not checked (R210). -/
def check1850 (st : State) (f : RxFrame) : Option Message :=
  let cl := st.checkLen
  if f.bytes.length < 4 + cl then none
  else if cl = 1 ∧ lastByteIs crc8 f.bytes = false then none
  else some (strippedMsg cl f.bytes f.ts)

/-- `decode1850(frames)`: `none` is BadData (R210). -/
def decode1850 (st : State) : List RxFrame → Option (List Message)
  | [] => some []
  | f :: fs =>
    match check1850 st f, decode1850 st fs with
    | some m, some rest => some (m :: rest)
    | _, _ => none

/-! ### Raw reads -/

/-- The message of one raw read (R202). -/
def rawMsg (bytes : List Byte) (ts : Word) : Message where
  data := bytes
  src := 0x00
  dest := 0x00
  flags := noFlags
  ts := ts

end Sys2Proof.Machine
end

