-- ==== Sys2Proof/Machine/Receive.lean ====
section
/-! DEFINITION. `l2_receive` and its three receivers (spec/43_link_transfer.md rules R190 to R214),
each sub-state as the action it takes on its answer. -/

namespace Sys2Proof.Machine

/-- What a command does with the messages of a successful receive: RECV and REQUEST append them (R190,
R215), framed L3_RECV appends them and resets the idle time (R251), the keepalive drops them (R260). -/
def deliver (s : State) (c : Receiver) (msgs : List Message) : State :=
  match c with
  | .recv =>
    match s.appendMsgs msgs with
    | some s' => s'.complete .ok
    | none => s.complete .noMemory
  | .request =>
    match s.appendMsgs msgs with
    | some s' => s'.complete .ok
    | none => s.complete .noMemory
  | .l3Framed =>
    match s.appendMsgs msgs with
    | some s' => { s' with l3idle := s'.now }.complete .ok
    | none => s.complete .noMemory
  | .keepalive => s.complete .ok

/-- `none` is BadData and discards everything collected (R198, R210). -/
def deliverDecoded (s : State) (c : Receiver) : Option (List Message) → State
  | some msgs => deliver s c msgs
  | none => s.complete .badData

/-! ### ISO9141 -/

/-- Enters RX_ACCUM: a frame of FRAME_CAP bytes is too long (R196). -/
def enterAccum (s : State) (c : Receiver) (frames : List RxFrame) (cur : List Byte) (ts : Word) :
    State :=
  if cur.length ≥ Config.frameCap then s.complete .badLength
  else s.issueRecv (Config.frameCap - cur.length) s.tIb (.rxAccum c frames cur ts)

/-- RX_WAIT_FIRST acts on its answer (R195). -/
def onRxWaitFirst (s : State) (c : Receiver) (time : Word) : RecvResult → State
  | .data d => enterAccum s c [] d time
  | .err e => s.complete e.toCode

/-- RX_ACCUM acts on its answer: a Timeout closes the frame (R196). -/
def onRxAccum (s : State) (c : Receiver) (frames : List RxFrame) (cur : List Byte) (ts : Word) :
    RecvResult → State
  | .data d => enterAccum s c frames (cur ++ d) ts
  | .err .timeout =>
    s.issueRecv Config.frameCap s.t3 (.rxWaitMore c (frames ++ [⟨cur, ts⟩]))
  | .err e => s.complete e.toCode

/-- RX_WAIT_MORE acts on its answer: a Timeout ends the receive (R197). -/
def onRxWaitMore (s : State) (c : Receiver) (frames : List RxFrame) (time : Word) :
    RecvResult → State
  | .data d => enterAccum s c frames d time
  | .err .timeout => deliverDecoded s c (decode9141 s frames)
  | .err e => s.complete e.toCode

/-! ### Raw and ISO14230 -/

/-- `rxraw` acts on its answer (R202). -/
def onRxRaw (s : State) (c : Receiver) (time : Word) : RecvResult → State
  | .data d => deliver s c [rawMsg d time]
  | .err e => s.complete e.toCode

/-! ### J1850 -/

/-- Leaves `rx1850`: RETRIES takes the number of resends (R209, R214). -/
def State.setRetries (s : State) (n : Nat) : State := { s with retries := BitVec.ofNat 8 n }

/-- `bus_retry()`: resends LASTTX, at most BUS_RETRY_MAX times and only if something was sent (R212). -/
def busRetry (s : State) (c : Receiver) (n : Nat) : State :=
  if n ≥ Config.busRetryMax then (s.setRetries n).complete .busError
  else
    match s.lasttx with
    | none => (s.setRetries n).complete .busError
    | some f => s.issueAck (.send f) (.rx1850Resend c (n + 1))

/-- `rx1850` acts on the answer to a read (R209). -/
def onRx1850 (s : State) (c : Receiver) (frames : List RxFrame) (n : Nat) (time : Word) :
    RecvResult → State
  | .data d =>
    s.issueRecv Config.frameCap s.tp3min.toNat (.rx1850 c (frames ++ [⟨d, time⟩]) n)
  | .err .timeout =>
    if frames = [] then (s.setRetries n).complete .timeout
    else deliverDecoded (s.setRetries n) c (decode1850 s frames)
  | .err .busError => busRetry s c n
  | .err .ioError => (s.setRetries n).complete .ioError

/-- `rx1850` acts on the answer to a resend: the frames are discarded and reading restarts with the
user time-out (R209, R212). -/
def onRx1850Resend (s : State) (c : Receiver) (n : Nat) : Option L0Err → State
  | none => s.issueRecv Config.frameCap s.timeoutMs (.rx1850 c [] n)
  | some e => (s.setRetries n).complete e.toCode

/-! ### Dispatch -/

/-- A receive on a J1850 link whose L0 device does no framing is not supported (R207, R208). -/
def State.receiveUnsupported (s : State) : Bool :=
  s.proto == some .j1850 && !s.l0Has .doesL2Frame

/-- `l2_receive(TIMEOUT)` begins (R191). J1850 needs a framing L0 device (R208); VAG does not receive
(R188); the reserved PROTO values are answered as VAG is (log entry 12). -/
def beginReceive (s : State) (c : Receiver) : State :=
  match s.proto with
  | some .iso9141 => s.issueRecv Config.frameCap s.timeoutMs (.rxWaitFirst c)
  | some .j1850 =>
    if s.l0Has .doesL2Frame then s.issueRecv Config.frameCap s.timeoutMs (.rx1850 c [] 0)
    else s.complete .protocolNotSupported
  | some .raw => s.issueRecv Config.frameCap s.timeoutMs (.rxRaw c)
  | some .iso14230 => s.issueRecv Config.frameCap s.timeoutMs (.rxRaw c)
  | some .vag => s.complete .protocolNotSupported
  | none => s.complete .protocolNotSupported

end Sys2Proof.Machine
end

