-- ==== Sys2Proof/Machine/Emit.lean ====
section
/-! DEFINITION. `l2_send` and `emit` (spec/43_link_transfer.md rules R184, R189), and what each sending
command does once its frame is on the wire. -/

namespace Sys2Proof.Machine

/-- `keepalive_receive()` begins: framed, with RETRIES written as for RECV, or the byte path with the
whole of MSGQ_CAP as room (R260). -/
def keepaliveReceive (s : State) : State :=
  if s.has .doesL2Frame then beginReceive (s.setRetries 0) .keepalive
  else enterProbe s ⟨.keepalive, Config.msgqCap, []⟩

/-- A complete successful emit: LASTTX takes the frame (R189), and the command goes on (R183, R215,
R242, R259). -/
def afterEmit (s : State) (c : Sender) (frame : List Byte) : State :=
  let s := { s with lasttx := some frame }
  match c with
  | .send => s.complete .ok
  | .request => beginReceive s .request
  | .l3Send => { s with l3idle := s.now }.complete .ok
  | .keepalive => keepaliveReceive { s with l3idle := s.now }

/-- Does `emit` send this frame byte by byte (R189)? -/
def State.bytewise (s : State) (frame : List Byte) : Bool :=
  (s.proto == some .iso9141 || s.proto == some .iso14230) && !s.l0Has .doesP4Wait &&
    decide (frame.length > 1)

/-- `emit(f)` begins (R189). -/
def emit (s : State) (c : Sender) (frame : List Byte) : State :=
  if s.bytewise frame then
    s.issueAck (.send (frame.take 1)) (.emitByte c frame (frame.drop 1))
  else s.issueAck (.send frame) (.emitFrame c frame)

/-- Does the receive that this command runs after its send fail at its capability check (R208)? SEND and
L3_SEND run no receive; the keepalive runs `l2_receive` on a framed link only (R260). -/
def State.answerUnsupported (s : State) : Sender → Bool
  | .send => false
  | .request => s.receiveUnsupported
  | .l3Send => false
  | .keepalive => s.has .doesL2Frame && s.receiveUnsupported

/-- `l2_send_bytes(s)` begins: frame, then emit (R184). The capability check of a receive that follows in
the same command comes before the first L0 operation (R294, log entry 20). -/
def l2SendBytes (s : State) (c : Sender) (bs : List Byte) : State :=
  match frameFor s bs with
  | .ok f => if s.answerUnsupported c then s.complete .protocolNotSupported else emit s c f
  | .error e => s.complete e

/-- `l2_send()` begins: VAG first, then the operand, then the framer (R184, R294). -/
def l2Send (s : State) (c : Sender) : Host.Outcome State Fault Refusal :=
  if s.proto = some .vag then .next (s.complete .protocolNotSupported)
  else s.onTxBytes fun bs => l2SendBytes s c bs

/-- `emit` in one operation acts on its answer (R189). -/
def onEmitFrame (s : State) (c : Sender) (frame : List Byte) : Option L0Err → State
  | none => afterEmit s c frame
  | some e => s.complete e.toCode

/-- After the gap, the next byte goes out (R189). -/
def emitNext (s : State) (c : Sender) (frame rest : List Byte) : State :=
  s.issueAck (.send (rest.take 1)) (.emitByte c frame (rest.drop 1))

end Sys2Proof.Machine
end

