-- ==== Sys2Proof/Machine/Engine.lean ====
section
/-! DEFINITION. The engine (R9, R47): what it does at each of its sub-states when it acts, the events
that move a running command, and the run of a command over the events to come. -/

namespace Sys2Proof.Machine

/-! ### Sleeps -/

/-- What the engine does when a sleep is over. -/
def wake (s : State) : SleepKont → State
  | .s5Idle v => enterS5Init s v
  | .s5W4 v => enterS5TxInv s v
  | .fIdle => enterFastPending s
  | .emitGap c frame rest => emitNext s c frame rest

/-- `sleep(d)`, then `k`: a sleep of 0 continues at once (R46). -/
def sleepThen (s : State) (d : Nat) (k : SleepKont) : State :=
  if d = 0 then wake s k else { s with estate := .sleeping s.now d k }

/-! ### The sub-states that sleep or issue a flush -/

/-- START acts on the L0 flags: the registers are loaded (R143), the L0 device must support the selected
init (R144), and the init begins (R140, R145, R147, R159). -/
def onGetFlags (s : State) (f : BitVec 9) (init : InitKind) : State :=
  let s := loadConnection s f
  match init with
  | .noInit => linkUp s
  | .fiveBaud v =>
    if s.l0Has .slow then s.issueAck .flush (.s5Flush v) else failDown s .protocolNotSupported
  | .fast =>
    if s.l0Has .fast then sleepThen s s.params.tIdleFast .fIdle
    else failDown s .protocolNotSupported

/-- S5_FLUSH acts on its answer, and S5_IDLE begins (R147). -/
def onS5Flush (s : State) (v : KeyVariant) : Option L0Err → State
  | none => sleepThen s s.params.tIdle5baud (.s5Idle v)
  | some e => failDown s e.toCode

/-- S5_CHECK, S5_P2 and what follows: S5_DONE where the L0 device does the acknowledgement itself, else
S5_W4 (R150 to R153). -/
def s5Check (s : State) (v : KeyVariant) : State :=
  if kbOk v s.kb1 s.kb2 then
    let s := refineP2 s
    if s.l0Has .doesSlowInit then linkUp s else sleepThen s s.params.w4min (.s5W4 v)
  else failDown s .wrongKeyBytes

/-- S5_KB2 acts on its answer: KEYBYTES[15:8] takes key byte 2 (R149). -/
def onS5Kb2 (s : State) (v : KeyVariant) : RecvResult → State
  | .data d => s5Check { s with keybytes := d.getD 0 0 ++ s.kb1 } v
  | .err e => failDown s e.toCode

/-- `emit` byte by byte acts on its answer: the gap of TP4MIN, or the frame is complete (R189). -/
def onEmitByte (s : State) (c : Sender) (frame rest : List Byte) : Option L0Err → State
  | none =>
    if rest = [] then afterEmit s c frame
    else sleepThen s s.tp4min.toNat (.emitGap c frame rest)
  | some e => s.complete e.toCode

/-! ### The engine acts -/

/-- The engine acts on an Ok or an error. -/
def onAck (s : State) (r : Option L0Err) : AckKont → State
  | .startSetSpeed init => onSetSpeed s init r
  | .s5Flush v => onS5Flush s v r
  | .s5Init v => onS5Init s v r
  | .s5TxInv v => onS5TxInv s v r
  | .fInit bytes => onFInit s bytes r
  | .emitFrame c frame => onEmitFrame s c frame r
  | .emitByte c frame rest => onEmitByte s c frame rest r
  | .rx1850Resend c n => onRx1850Resend s c n r

/-- The engine acts on the answer to a read. -/
def onRecv (s : State) (r : RecvResult) (time : Word) : RecvKont → State
  | .s5Kb1 v => onS5Kb1 s v r
  | .s5Kb2 v => onS5Kb2 s v r
  | .s5RxInv _ => onS5RxInv s r
  | .rxWaitFirst c => onRxWaitFirst s c time r
  | .rxAccum c frames cur ts => onRxAccum s c frames cur ts r
  | .rxWaitMore c frames => onRxWaitMore s c frames time r
  | .rxRaw c => onRxRaw s c time r
  | .rx1850 c frames n => onRx1850 s c frames n time r
  | .l3Probe p => onL3Probe s p r
  | .l3Normal p => onL3Normal s p r
  | .l3Drain p => onL3Drain s p r

/-- The engine gets to act on a running command: it waits while an operation is in flight or a sleep is
not over (R46, R182), and otherwise goes on to its next suspension point or to the command's end. A word
still to decode is `step`'s to run; in IDLE nothing happens. -/
def act (s : State) : State :=
  match s.estate with
  | .idle => s
  | .decode _ => s
  | .awaitAck _ _ => s
  | .awaitFlags _ => s
  | .awaitRecv _ _ _ => s
  | .answeredAck r k => onAck s r k
  | .answeredFlags f init => onGetFlags s f init
  | .answeredRecv r time k => onRecv s r time k
  | .sleeping t0 d k => if slept s.now t0 d then wake s k else s

/-- The events that move a running command or its clock: the tick, an answer of the L0 port, the engine.
A host access and the reset input are `step`'s (R9). -/
def engineEvent (s : State) : Input → Option State
  | .tick => some s.tick
  | .answer a => some (s.answer a)
  | .engine => some (act s)
  | .reset => none
  | .hostRead _ _ => none
  | .hostWrite _ _ _ => none

/-- Is a command being executed, past its decoding (R107)? -/
def EState.running : EState → Bool
  | .idle => false
  | .decode _ => false
  | _ => true

/-- Runs the command in progress over the events `evs`: to its end, or until a host access, a reset or
the end of the events, where the command stays suspended at its sub-state. -/
def runOver : List Input → State → State
  | [], s => { s with inputs := [] }
  | ev :: rest, s =>
    if s.estate.running then
      match engineEvent s ev with
      | some s' => runOver rest s'
      | none => { s with inputs := ev :: rest }
    else { s with inputs := ev :: rest }

/-- Runs the command in progress over the events to come. -/
def runCommand (s : State) : State := runOver s.inputs s

/-- Runs the command that an outcome has begun. -/
def thenRun : Host.Outcome State Fault Refusal → Host.Outcome State Fault Refusal
  | .next s => .next (runCommand s)
  | .fault f => .fault f
  | .refused r => .refused r

end Sys2Proof.Machine
end

