-- ==== Sys2Proof/Machine/LinkCommands.lean ====
section
/-! DEFINITION. START and STOP (spec/42_link_init.md rules R140, R165). -/

namespace Sys2Proof.Machine

/-- START as far as its first suspension point: the checks of rule R141, then the prologue (R143). -/
def beginStart (s : State) : State :=
  if s.link ≠ .down then s.complete .illegalCommand
  else
    match selectInit s.proto s.initMode with
    | some init => startPrologue s init
    | none => s.complete .protocolNotSupported

/-- START (R140). -/
def execStart (s : State) : Host.Outcome State Fault Refusal := .next (runCommand (beginStart s))

/-- STOP (R165, R166). -/
def execStop (s : State) : Host.Outcome State Fault Refusal :=
  if s.l3active then .next (s.complete .illegalCommand)
  else .next ({ s with link := .down, fastbuf := [], lasttx := none }.complete .ok)

end Sys2Proof.Machine
end

