-- ==== Sys2Proof/Machine/SessionCommands.lean ====
section
/-! DEFINITION. L3_START, L3_STOP, L3_SEND, L3_RECV and L3_KEEPALIVE (spec/44_l3_session.md rules R240
to R242, R250, R259). -/

namespace Sys2Proof.Machine

/-- L3_START (R240). -/
def execL3Start (s : State) : Host.Outcome State Fault Refusal :=
  if s.l3active ∨ s.link ≠ .up then .next (s.complete .illegalCommand)
  else .next ({ s with l3active := true, l3buf := [], l3idle := s.now }.complete .ok)

/-- L3_STOP (R241). -/
def execL3Stop (s : State) : Host.Outcome State Fault Refusal :=
  if s.l3active then .next ({ s with l3active := false, l3buf := [] }.complete .ok)
  else .next (s.complete .illegalCommand)

/-- L3_SEND as far as its first suspension point (R242). -/
def beginL3Send (s : State) : Host.Outcome State Fault Refusal :=
  if s.l3active then l2Send s .l3Send else .next (s.complete .illegalCommand)

/-- L3_SEND (R242). -/
def execL3Send (s : State) : Host.Outcome State Fault Refusal := thenRun (beginL3Send s)

/-- L3_RECV as far as its first suspension point (R250): the framed path where the merged flags say so
(R251), else L3_PROBE with the free places of MSGQ as room. -/
def beginL3Recv (s : State) : State :=
  if s.l3active then
    if s.msgq.length ≥ Config.msgqCap then s.complete .noMemory
    else
      let room := Config.msgqCap - s.msgq.length
      let s := s.setRetries 0
      if s.has .doesL2Frame then beginReceive s .l3Framed else enterProbe s ⟨.l3Recv, room, []⟩
  else s.complete .illegalCommand

/-- L3_RECV (R250). -/
def execL3Recv (s : State) : Host.Outcome State Fault Refusal := .next (runCommand (beginL3Recv s))

/-- The idle time of the session, wrapping (R259, R261). -/
def State.idleMs (s : State) : Nat := (s.now - s.l3idle).toNat

/-- The keepalive payload: mode 1, PID 0 (R259). -/
def keepalivePayload : List Byte := [0x01, 0x00]

/-- L3_KEEPALIVE as far as its first suspension point (R259). -/
def beginL3Keepalive (s : State) : State :=
  if s.l3active then
    if s.has .keepalive then s.complete .ok
    else if s.idleMs ≤ Config.keepaliveMs then s.complete .ok
    else l2SendBytes s .keepalive keepalivePayload
  else s.complete .illegalCommand

/-- L3_KEEPALIVE (R259). -/
def execL3Keepalive (s : State) : Host.Outcome State Fault Refusal :=
  .next (runCommand (beginL3Keepalive s))

end Sys2Proof.Machine
end

