-- ==== Sys2Proof/Machine/System.lean ====
section
/-! DEFINITION. The system command (spec/40_system.md). -/

namespace Sys2Proof.Machine

/-- NOP: nothing changes but STATUS.ERR and the end of the command (R106). -/
def execNop (s : State) : Host.Outcome State Fault Refusal := .next (s.complete .ok)

end Sys2Proof.Machine
end

