-- ==== Sys2Proof/Machine/TransferCommands.lean ====
section
/-! DEFINITION. SEND, RECV, REQUEST and MSG_POP (spec/43_link_transfer.md rules R183, R190, R215,
R216). -/

namespace Sys2Proof.Machine

/-- SEND as far as its first suspension point (R183). -/
def beginSend (s : State) : Host.Outcome State Fault Refusal :=
  match s.link with
  | .down => .next (s.complete .illegalCommand)
  | .fastPending => s.onTxBytes (fastAccum s)
  | .up => l2Send s .send

/-- SEND (R183). -/
def execSend (s : State) : Host.Outcome State Fault Refusal := thenRun (beginSend s)

/-- RECV as far as its first suspension point (R190). -/
def beginRecv (s : State) : State :=
  if s.link ≠ .up then s.complete .illegalCommand else beginReceive (s.setRetries 0) .recv

/-- RECV (R190). -/
def execRecv (s : State) : Host.Outcome State Fault Refusal := .next (runCommand (beginRecv s))

/-- REQUEST as far as its first suspension point (R215). -/
def beginRequest (s : State) : Host.Outcome State Fault Refusal :=
  if s.link ≠ .up then .next (s.complete .illegalCommand)
  else l2Send (s.setRetries 0) .request

/-- REQUEST (R215). -/
def execRequest (s : State) : Host.Outcome State Fault Refusal := thenRun (beginRequest s)

/-- MSG_POP (R216). -/
def execMsgPop (s : State) : Host.Outcome State Fault Refusal :=
  .next ({ s with msgq := s.msgq.tail }.complete .ok)

end Sys2Proof.Machine
end

