-- ==== Sys2Proof/Machine/Dispatch.lean ====
section
/-! DEFINITION. The meaning of each command: one arm per constructor of Instr, one call per arm. -/

namespace Sys2Proof.Machine

-- The state after the command, run over the events to come (Machine/Engine.lean).
def exec (i : Instr) (s : State) : Host.Outcome State Fault Refusal :=
  match i with
  | .nop => Sys2Proof.Machine.execNop s
  | .cksInit => Sys2Proof.Machine.execCksInit s
  | .cksAdd b => Sys2Proof.Machine.execCksAdd b s
  | .cksBuf => Sys2Proof.Machine.execCksBuf s
  | .cksCheck => Sys2Proof.Machine.execCksCheck s
  | .crcInit => Sys2Proof.Machine.execCrcInit s
  | .crcAdd b => Sys2Proof.Machine.execCrcAdd b s
  | .crcBuf => Sys2Proof.Machine.execCrcBuf s
  | .crcCheck => Sys2Proof.Machine.execCrcCheck s
  | .start => Sys2Proof.Machine.execStart s
  | .stop => Sys2Proof.Machine.execStop s
  | .send => Sys2Proof.Machine.execSend s
  | .recv => Sys2Proof.Machine.execRecv s
  | .request => Sys2Proof.Machine.execRequest s
  | .msgPop => Sys2Proof.Machine.execMsgPop s
  | .l3Start => Sys2Proof.Machine.execL3Start s
  | .l3Stop => Sys2Proof.Machine.execL3Stop s
  | .l3Send => Sys2Proof.Machine.execL3Send s
  | .l3Recv => Sys2Proof.Machine.execL3Recv s
  | .l3Keepalive => Sys2Proof.Machine.execL3Keepalive s

end Sys2Proof.Machine
end

