-- ==== Sys2Proof/Machine/HostPort.lean ====
section
/-! DEFINITION. The host port: the register map of the window (R21), what a read returns and what a write
does (R22 to R55, R72, R79). -/

namespace Sys2Proof.Machine

/-- The registers of the host window (R21). -/
inductive Reg where
  | cmd
  | status
  | config
  | addr
  | speed
  | timeout
  | l0flags
  | flags
  | keybytes
  | tp1max
  | tp2min
  | tp3min
  | tp4min
  | cksum
  | crcreg
  | crcout
  | txlen
  | msgcnt
  | msglen
  | msgaddr
  | msgflags
  | msgts
  | now
  | l3stat
  | l3idle
  | retries
  | txbuf (i : Nat)
  | msgdata (i : Nat)
  | l3buf (i : Nat)
  /-- Every word offset that rule R21 does not list (R54). -/
  | unmapped
deriving DecidableEq, Repr

/-- The register at an offset of the window that is a multiple of 4 (R21, R76). -/
def regAt (off : Nat) : Reg :=
  match off with
  | 0x000 => .cmd
  | 0x004 => .status
  | 0x008 => .config
  | 0x00C => .addr
  | 0x010 => .speed
  | 0x014 => .timeout
  | 0x018 => .l0flags
  | 0x01C => .flags
  | 0x020 => .keybytes
  | 0x024 => .tp1max
  | 0x028 => .tp2min
  | 0x02C => .tp3min
  | 0x030 => .tp4min
  | 0x034 => .cksum
  | 0x038 => .crcreg
  | 0x03C => .crcout
  | 0x040 => .txlen
  | 0x044 => .msgcnt
  | 0x048 => .msglen
  | 0x04C => .msgaddr
  | 0x050 => .msgflags
  | 0x054 => .msgts
  | 0x058 => .now
  | 0x05C => .l3stat
  | 0x060 => .l3idle
  | 0x064 => .retries
  | _ =>
    if 0x100 ≤ off ∧ off < 0x200 then .txbuf ((off - 0x100) / 4)
    else if 0x200 ≤ off ∧ off < 0x300 then .msgdata ((off - 0x200) / 4)
    else if 0x300 ≤ off ∧ off < 0x400 then .l3buf ((off - 0x300) / 4)
    else .unmapped

/-- A byte in bits [7:0] of a register word (R21, R73). -/
def byteWord (b : Byte) : Word := b.zeroExtend 32

/-- A field of the head message, 0 where MSGQ is empty (R42). -/
def State.headView (s : State) (f : Message → Word) : Word :=
  match s.msgq with
  | m :: _ => f m
  | [] => 0

/-- TXBUF[i] as the host reads it: the byte written, or an unspecified byte (R38). -/
def State.txView (s : State) (i : Nat) : Byte :=
  match s.txbuf.read i with
  | some b => b
  | none => Config.txUnwritten s.resets i

/-- L3STAT: [0] L3_ACTIVE, [15:8] L3LEN (R43). -/
def State.l3stat (s : State) : Word :=
  (BitVec.ofNat 8 s.l3buf.length).zeroExtend 32 <<< 8 |||
    (BitVec.ofBool s.l3active).zeroExtend 32

/-- MSGADDR: [7:0] source, [15:8] destination of the head message (R42). -/
def addrWord (m : Message) : Word := (m.dest.zeroExtend 32 <<< 8) ||| m.src.zeroExtend 32

/-- What a register reads while no command runs (R21 to R45). CMD and unmapped offsets read 0 (R54);
CRCOUT and the MSG registers are views without storage (R36, R42). -/
def State.view (s : State) : Reg → Word
  | .cmd => 0
  | .status => s.status
  | .config => s.config.zeroExtend 32
  | .addr => s.addr.zeroExtend 32
  | .speed => s.speed
  | .timeout => s.timeout.zeroExtend 32
  | .l0flags => s.l0flags.zeroExtend 32
  | .flags => s.flags.zeroExtend 32
  | .keybytes => s.keybytes.zeroExtend 32
  | .tp1max => s.tp1max.zeroExtend 32
  | .tp2min => s.tp2min.zeroExtend 32
  | .tp3min => s.tp3min.zeroExtend 32
  | .tp4min => s.tp4min.zeroExtend 32
  | .cksum => byteWord s.cksum
  | .crcreg => byteWord s.crcreg
  | .crcout => byteWord (~~~s.crcreg)
  | .txlen => byteWord s.txlen
  | .msgcnt => byteWord (BitVec.ofNat 8 s.msgq.length)
  | .msglen => s.headView fun m => byteWord (BitVec.ofNat 8 m.data.length)
  | .msgaddr => s.headView addrWord
  | .msgflags => s.headView fun m => m.flags.zeroExtend 32
  | .msgts => s.headView fun m => m.ts
  | .now => s.now
  | .l3stat => s.l3stat
  | .l3idle => s.l3idle
  | .retries => byteWord s.retries
  | .txbuf i => byteWord (s.txView i)
  | .msgdata i => s.headView fun m => byteWord (m.data.getD i 0)
  | .l3buf i => byteWord (s.l3buf.getD i 0)
  | .unmapped => 0

/-- Are CONFIG, ADDR and SPEED writable (R55)? -/
def State.linkDown (s : State) : Bool := s.link == .down

/-- What a host write does while no command runs: CMD starts the command the word encodes (R22), the RW
registers store (R24 to R27, R37, R38), CONFIG, ADDR and SPEED only while the link is DOWN (R55), and a
write to an RO register or an unmapped offset is ignored (R54). -/
def State.store (s : State) (v : Word) : Reg → State
  | .cmd => { s with busy := true, estate := .decode v }
  | .config => if s.linkDown then { s with config := v.truncate 6 } else s
  | .addr => if s.linkDown then { s with addr := v.truncate 16 } else s
  | .speed => if s.linkDown then { s with speed := v } else s
  | .timeout => { s with timeout := v.truncate 16 }
  | .txlen => { s with txlen := v.truncate 8 }
  | .txbuf i => { s with txbuf := s.txbuf.write i (v.truncate 8) }
  | .status => s
  | .l0flags => s
  | .flags => s
  | .keybytes => s
  | .tp1max => s
  | .tp2min => s
  | .tp3min => s
  | .tp4min => s
  | .cksum => s
  | .crcreg => s
  | .crcout => s
  | .msgcnt => s
  | .msglen => s
  | .msgaddr => s
  | .msgflags => s
  | .msgts => s
  | .now => s
  | .l3stat => s
  | .l3idle => s
  | .retries => s
  | .msgdata _ => s
  | .l3buf _ => s
  | .unmapped => s

/-- The offset in the window of a legal access, `none` for an access that is outside the window, not at
a multiple of 4 or not 32 bits wide (R71, R72, R74). -/
def State.offset (s : State) (address bytes : Nat) : Option Nat :=
  let off := address - s.params.blockBase
  if s.params.blockBase ≤ address ∧ off < Config.windowBytes ∧ off % 4 = 0 ∧ bytes = 4 then
    some off
  else none

/-- What a read returns while STATUS.BUSY = 1: STATUS and NOW as rule R79 says, any value elsewhere. -/
def State.busyView (s : State) : Reg → Word
  | .status => statusWhileBusy (Config.busyRead s.freeReads)
  | .now => s.now
  | _ => Config.busyRead s.freeReads

/-- A host read (R72, R79): the value goes to the host, and nothing of the block changes (R75). -/
def hostRead (address bytes : Nat) (s : State) : Host.Outcome State Fault Refusal :=
  match s.offset address bytes with
  | none => .fault .badHostAccess
  | some off =>
    if s.busy then
      .next { s with readData := s.busyView (regAt off), freeReads := s.freeReads + 1 }
    else .next { s with readData := s.view (regAt off) }

/-- A host write (R72, R79). -/
def hostWrite (address bytes : Nat) (v : Word) (s : State) : Host.Outcome State Fault Refusal :=
  match s.offset address bytes with
  | none => .fault .badHostAccess
  | some off => if s.busy then .fault .writeWhileBusy else .next (s.store v (regAt off))

end Sys2Proof.Machine
end

