-- ==== Sys2Proof/Machine/Step.lean ====
section
/-! DEFINITION. One step of the block: the next event of its agents (R9), and, where the engine acts on a
command word, the whole command over the events to come. -/

namespace Sys2Proof.Machine

/-- The engine decodes a command word and runs the command (R107); a word that is no command completes
with IllegalCommand (R94). -/
def runWord (w : Word) (s : State) : Host.Outcome State Fault Refusal :=
  match decode w with
  | .ok i => exec i s
  | .error _ => .next s.illegalWord

/-- What one event does. -/
def onEvent (s : State) : Input → Host.Outcome State Fault Refusal
  | .tick => .next s.tick
  | .reset => .next s.resetBlock
  | .answer a => .next (s.answer a)
  | .hostRead address bytes => hostRead address bytes s
  | .hostWrite address bytes v => hostWrite address bytes v s
  | .engine =>
    match s.fetch with
    | some w => runWord w s
    | none => .next (act s)

/-- One step: the next event happens. With no event to come nothing changes: the block does nothing by
itself (R309, R322), and a command that waits goes on waiting (R301). A violation stops the model until
the reset input (R300); a stopped model with no event to come, and so no reset, ends in its fault. -/
def step (s : State) : Host.Outcome State Fault Refusal :=
  match s.modelFault, s.inputs with
  | none, [] => .next s
  | none, ev :: rest => State.stopAt { s with inputs := rest } (onEvent { s with inputs := rest } ev)
  | some f, [] => .fault f
  | some _, ev :: rest => .next (State.whileStopped { s with inputs := rest } ev)

/-- s with the command word w written to CMD and the engine about to act on it: what the host's write to
CMD of rule R22 leaves, with no model fault, and the engine's event next. A word that nbits leaves
shorter than 32 bits has zeros above. -/
def State.withFetchWord (s : State) (nbits w : Nat) : State :=
  { s with
    busy := true
    estate := .decode (BitVec.ofNat 32 (w % 2 ^ nbits))
    modelFault := none
    inputs := .engine :: s.inputs }

end Sys2Proof.Machine
end

