-- ==== Sys2Proof/Safety.lean ====
section
/-! DEFINITION. What counts as a safe run (spec/60_exceptions.md rule R300), and the invariant of the
block: what every reachable state satisfies, in the terms the claims use. -/

namespace Sys2Proof.Machine

/-- A run of k steps from s reaches no model fault: what a proof about a program shows (R300). -/
def RunsSafely (k : Nat) (s : State) : Prop :=
  ∀ j, j ≤ k → ∃ t, Host.Core.run Sys2Proof.core j s = .next t ∧ t.modelFault = none

/-- A message record is in bounds (R40), and FUNCTIONAL_ADDRESSING is not set (R41). -/
def MessageOk (m : Message) : Prop :=
  m.data.length ≤ Config.frameCap ∧ m.flags.getLsbD 3 = false

/-- A received frame holds 1 to FRAME_CAP bytes (R206). -/
def FrameOk (f : RxFrame) : Prop := 1 ≤ f.bytes.length ∧ f.bytes.length ≤ Config.frameCap

/-- FLAGS is the merged set of the current protocol (R29). -/
def FlagsMerged (s : State) : Prop := ∀ p, s.proto = some p → s.flags = s.l0flags ||| declared p

/-- A START is running: the link is DOWN, and CONFIG still selects the init that runs (R141). -/
def StartOk (s : State) (init : InitKind) : Prop :=
  s.link = .down ∧ selectInit s.proto s.initMode = some init

/-- A START is running and has loaded its registers (R143). -/
def StartLoaded (s : State) (init : InitKind) : Prop := StartOk s init ∧ FlagsMerged s

/-- A command that sends is running on a link that is UP, inside a session where it needs one (R256). -/
def SenderOk (s : State) (c : Sender) : Prop :=
  s.link = .up ∧ (c = .l3Send ∨ c = .keepalive → s.l3active = true)

/-- A command that receives is running on a link that is UP, inside a session where it needs one. -/
def ReceiverOk (s : State) (c : Receiver) : Prop :=
  s.link = .up ∧ (c = .l3Framed ∨ c = .keepalive → s.l3active = true)

/-- The byte path is running: a session is active, and what it has produced fits (R247, R255). -/
def ByteRunOk (s : State) (p : ByteRun) : Prop :=
  s.link = .up ∧ s.l3active = true ∧ p.produced.length ≤ p.room ∧
    (p.caller = .l3Recv → s.msgq.length + p.room ≤ Config.msgqCap) ∧
    (∀ m ∈ p.produced, MessageOk m)

/-- The sub-states that wait for an Ok or an error. -/
def AckKontOk (s : State) : AckKont → Prop
  | .startSetSpeed init => StartOk s init
  | .s5Flush v => StartLoaded s (.fiveBaud v)
  | .s5Init v => StartLoaded s (.fiveBaud v)
  | .s5TxInv v => StartLoaded s (.fiveBaud v)
  | .fInit bytes => s.link = .fastPending ∧ bytes.length = Config.fastInitLen ∧ s.fastbuf = []
  | .emitFrame c frame => SenderOk s c ∧ frame ≠ []
  | .emitByte c frame _ => SenderOk s c ∧ frame ≠ []
  | .rx1850Resend c n => ReceiverOk s c ∧ n ≤ Config.busRetryMax

/-- The sub-states that wait for bytes. -/
def RecvKontOk (s : State) : RecvKont → Prop
  | .s5Kb1 v => StartLoaded s (.fiveBaud v)
  | .s5Kb2 v => StartLoaded s (.fiveBaud v)
  | .s5RxInv v => StartLoaded s (.fiveBaud v)
  | .rxWaitFirst c => ReceiverOk s c
  | .rxAccum c frames cur _ =>
    ReceiverOk s c ∧ (∀ f ∈ frames, FrameOk f) ∧ 1 ≤ cur.length ∧ cur.length < Config.frameCap
  | .rxWaitMore c frames => ReceiverOk s c ∧ ∀ f ∈ frames, FrameOk f
  | .rxRaw c => ReceiverOk s c
  | .rx1850 c frames n => ReceiverOk s c ∧ (∀ f ∈ frames, FrameOk f) ∧ n ≤ Config.busRetryMax
  | .l3Probe p => ByteRunOk s p ∧ s.l3buf.length < Config.l3bufCap
  | .l3Normal p => ByteRunOk s p ∧ s.l3buf.length < Config.l3bufCap
  | .l3Drain p => ByteRunOk s p ∧ s.l3buf.length < Config.l3bufCap

/-- The read size a sub-state asks for: the room left, never more (R206, R253). -/
def recvRoom (s : State) : RecvKont → Nat
  | .s5Kb1 _ => 1
  | .s5Kb2 _ => 1
  | .s5RxInv _ => 1
  | .rxWaitFirst _ => Config.frameCap
  | .rxAccum _ _ cur _ => Config.frameCap - cur.length
  | .rxWaitMore _ _ => Config.frameCap
  | .rxRaw _ => Config.frameCap
  | .rx1850 _ _ _ => Config.frameCap
  | .l3Probe _ => Config.l3bufCap - s.l3buf.length
  | .l3Normal _ => Config.l3bufCap - s.l3buf.length
  | .l3Drain _ => Config.l3bufCap - s.l3buf.length

/-- The sub-states that sleep. -/
def SleepKontOk (s : State) : SleepKont → Prop
  | .s5Idle v => StartLoaded s (.fiveBaud v)
  | .s5W4 v => StartLoaded s (.fiveBaud v)
  | .fIdle => StartLoaded s .fast
  | .emitGap c frame rest => SenderOk s c ∧ frame ≠ [] ∧ rest ≠ []

/-- The contract of an L0 operation that the block issues: `L0.send` has at least 1 byte (R59), the fast
`L0.init_bus` exactly 5 (R60), `L0.recv` asks for at least 1 (R58). -/
def OpOk : L0Op → Prop
  | .ack (.send bytes) => bytes ≠ []
  | .ack (.initBus .fast _ bytes) => bytes.length = Config.fastInitLen
  | .ack (.initBus .fiveBaud _ bytes) => bytes = []
  | .ack (.setSpeed _) => True
  | .ack .flush => True
  | .getFlags => True
  | .recv maxLen _ => 1 ≤ maxLen

/-- The engine state fits the rest of the state. -/
def EStateOk (s : State) : EState → Prop
  | .idle => True
  | .decode _ => True
  | .awaitAck op k => AckKontOk s k ∧ OpOk (.ack op)
  | .awaitFlags init => StartOk s init
  | .awaitRecv maxLen _ k => RecvKontOk s k ∧ maxLen = recvRoom s k
  | .answeredAck _ k => AckKontOk s k
  | .answeredFlags _ init => StartOk s init
  | .answeredRecv (.data d) _ k => RecvKontOk s k ∧ 1 ≤ d.length ∧ d.length ≤ recvRoom s k
  | .answeredRecv (.err _) _ k => RecvKontOk s k
  | .sleeping _ _ k => SleepKontOk s k

/-- The invariant of the block. -/
structure BlockInv (s : State) : Prop where
  /-- BUSY is 1 exactly while ESTATE is not IDLE (R47). -/
  busy_iff : s.busy = true ↔ s.estate ≠ .idle
  /-- ARB names the operation in flight and is IDLE without one (R50, R180). -/
  arb_eq : s.arb = s.estate.arb
  /-- An L3 session needs a link that is UP (R256). -/
  l3_up : s.l3active = true → s.link = .up
  /-- L3LEN is 0 outside a session (R65, R240, R241). -/
  l3_empty : s.l3active = false → s.l3buf = []
  /-- L3LEN is at most L3BUF_CAP (R43). -/
  l3_len : s.l3buf.length ≤ Config.l3bufCap
  /-- MSGQ holds at most MSGQ_CAP messages (R39). -/
  msgq_len : s.msgq.length ≤ Config.msgqCap
  /-- Every message in MSGQ is in bounds (R40, R41). -/
  msgq_ok : ∀ m ∈ s.msgq, MessageOk m
  /-- FASTBUF holds fewer than FAST_INIT_LEN bytes between commands (R48, R162). -/
  fastbuf_len : s.fastbuf.length < Config.fastInitLen
  /-- FASTBUF is empty unless the link is FAST_PENDING (R48). -/
  fastbuf_pending : s.link ≠ .fastPending → s.fastbuf = []
  /-- LASTTX, where there is one, is a frame of at least one byte (R49, R59). -/
  lasttx_ne : ∀ f, s.lasttx = some f → f ≠ []
  /-- TXBUF is in canonical form (R38). -/
  txbuf_wf : s.txbuf.wf = true
  /-- IncompleteData is never reported (R290). -/
  err_ne : s.err ≠ .incompleteData
  /-- RETRIES is at most BUS_RETRY_MAX (R44). -/
  retries_le : s.retries.toNat ≤ Config.busRetryMax
  /-- A link that is not DOWN was brought up under a legal (PROTO, INIT) pair, which CONFIG still holds
  (R55, R141). -/
  config_legal : s.link ≠ .down → (selectInit s.proto s.initMode).isSome = true
  /-- A link that is FAST_PENDING is an ISO14230 fast init (R161). -/
  config_fast : s.link = .fastPending → selectInit s.proto s.initMode = some .fast
  /-- While there is a connection, FLAGS is its merged set (R29). -/
  flags_merged : s.link ≠ .down → FlagsMerged s
  /-- The engine state fits the rest (R47). -/
  estate_ok : EStateOk s s.estate

end Sys2Proof.Machine
end

