-- ==== Sys2Proof/Certificates/Slice0/Obligations.lean ====
section
/-! DEFINITION. The statements for the provers, each with the rule of spec/ it formalises. The helpers
under Sys2Proof.Claims only name what the statements share: how a command ends, what TXBUF holds, and
the scripts of events. That the answers, the ticks and the engine's actions come as a list of events in
State, each taken at its turn, is the model's choice (log entries 2 and 8). -/

namespace Sys2Proof.Claims

open Sys2Proof Sys2Proof.Machine

/-- A command has ended with a code: ERR, ESTATE and BUSY, and nothing else (R295, R296). -/
def ended (s : State) (e : ErrCode) : State := { s with err := e, estate := .idle, busy := false }

/-- TXBUF[0..TXLEN) is written and holds `bs`, and TXLEN is at most TXCAP (R116). -/
abbrev TxHolds (s : State) (bs : List Byte) : Prop :=
  bs.length = s.txlen.toNat ∧ bs.length ≤ 64 ∧
    ∀ i, (h : i < bs.length) → s.txbuf.read i = some bs[i]

/-- The L0 device answers Ok and the engine acts. -/
def acked : List Input := [.answer .ok, .engine]

/-- The L0 device answers an error and the engine acts. -/
def gotErr (e : L0Err) : List Input := [.answer (.err e), .engine]

/-- The L0 device answers bytes and the engine acts. -/
def got (d : List Byte) : List Input := [.answer (.data d), .engine]

/-- The L0 device answers its capability set and the engine acts. -/
def gotFlags (f : BitVec 9) : List Input := [.answer (.flags f), .engine]

/-- n ticks, and then the engine acts. -/
def waited (n : Nat) : List Input := List.replicate n .tick ++ [.engine]

/-- The record of an operation answered Ok. -/
def okEvent (op : AckOp) : L0Event := ⟨.ack op, some .ok⟩

/-- The record of an operation answered with an error. -/
def errEvent (op : AckOp) (e : L0Err) : L0Event := ⟨.ack op, some (.err e)⟩

/-- The record of a read answered with bytes. -/
def dataEvent (m t : Nat) (d : List Byte) : L0Event := ⟨.recv m t, some (.data d)⟩

/-- The record of a read answered with an error. -/
def recvErr (m t : Nat) (e : L0Err) : L0Event := ⟨.recv m t, some (.err e)⟩

/-- A host access of the kind the rules allow: 32 bits at an offset of the window that is a multiple of
4 (R74). -/
abbrev Legal (off : Nat) : Prop := off < 1024 ∧ off % 4 = 0

/-- s with a host read of the register at `off` as the next event. -/
def reading (s : State) (off : Nat) (rest : List Input) : State :=
  { s with inputs := .hostRead (s.params.blockBase + off) 4 :: rest }

/-- s with a host write to the register at `off` as the next event. -/
def writing (s : State) (off : Nat) (v : Word) (rest : List Input) : State :=
  { s with inputs := .hostWrite (s.params.blockBase + off) 4 v :: rest }

/-- No command runs and the model is not stopped in a fault. -/
abbrev Ready (s : State) : Prop := s.modelFault = none ∧ s.busy = false

/-- A read of `off` goes through, gives `v`, and changes nothing of the block. -/
def Reads (s : State) (off : Nat) (v : Word) : Prop :=
  ∀ rest, step (reading s off rest) = .next { s with readData := v, inputs := rest }

/-- A write of `v` at `off` goes through and leaves `t`. -/
def WritesTo (s : State) (off : Nat) (v : Word) (t : State) : Prop :=
  ∀ rest, step (writing s off v rest) = .next { t with inputs := rest }

/-- The offsets of the registers that rule R21 lists as RO. -/
def roOffsets : List Nat :=
  [0x004, 0x018, 0x01C, 0x020, 0x024, 0x028, 0x02C, 0x030, 0x034, 0x038, 0x03C, 0x044, 0x048,
    0x04C, 0x050, 0x054, 0x058, 0x05C, 0x060, 0x064]

/-- The offsets of rule R21's RW registers below the buffers, and CMD. -/
def writableOffsets : List Nat := [0x000, 0x008, 0x00C, 0x010, 0x014, 0x040]

/-- The protocols that have a 5-baud init, with the variant each selects (R142). -/
inductive SlowVariant : Proto → KeyVariant → Prop where
  | iso9141 : SlowVariant .iso9141 .v9141
  | iso14230 : SlowVariant .iso14230 .v14230
  | vag : SlowVariant .vag .vvag

/-- What a START has loaded when `L0.get_flags` has answered `f` on a link of protocol p (R143). -/
def loaded (s : State) (p : Proto) (f : BitVec 9) : State :=
  { s with
    fastbuf := []
    lasttx := none
    keybytes := 0
    l0flags := f
    flags := f ||| declared p
    tp1max := BitVec.ofNat 16 (s.params.timing p).p1max
    tp2min := BitVec.ofNat 16 (s.params.timing p).p2min
    tp3min := BitVec.ofNat 16 (s.params.timing p).p3min
    tp4min := BitVec.ofNat 16 (s.params.timing p).p4min
    arb := .idle }

/-- The first two operations of every START (R143). -/
def prologueEvents (s : State) (f : BitVec 9) : List L0Event :=
  [okEvent (.setSpeed s.speed), ⟨.getFlags, some (.flags f)⟩]

/-- The operations of a 5-baud START up to the second key byte (R147 to R149). -/
def keyByteEvents (s : State) (f : BitVec 9) (k1 k2 : Byte) : List L0Event :=
  prologueEvents s f ++
    [okEvent .flush, okEvent (.initBus .fiveBaud s.target []), dataEvent 1 s.params.w2max [k1],
      dataEvent 1 s.params.w3max [k2]]

/-- The events of a 5-baud START up to the second key byte, n ticks of idle guard among them. -/
def keyByteScript (f : BitVec 9) (n : Nat) (k1 k2 : Byte) : List Input :=
  acked ++ gotFlags f ++ acked ++ waited n ++ acked ++ got [k1] ++ got [k2]

/-- The TP2MIN that key byte 1 derives (R152). -/
def refined (k1 : Byte) (dflt : BitVec 16) : BitVec 16 :=
  if k1 = 0x08 then 25 else if k1 = 0x94 then 0 else dflt

/-- The command is asleep: it has not ended, and no L0 operation is in flight (R46, R50). -/
def Asleep (t : State) : Prop := t.arb = .idle ∧ ∃ t0 d k, t.estate = .sleeping t0 d k

/-- R189's condition for sending a frame byte by byte: CONFIG.PROTO is ISO9141 (0) or ISO14230 (1),
L0FLAGS.DOES_P4_WAIT (bit 3) is 0, and the frame has more than one byte. -/
abbrev ByteByByte (s : State) (frame : List Byte) : Prop :=
  (s.config.extractLsb' 0 3 = 0 ∨ s.config.extractLsb' 0 3 = 1) ∧ s.l0flags.getLsbD 3 = false ∧
    1 < frame.length

/-- The (PROTO, INIT) pairs of rule R142's table that are legal, as the numbers in CONFIG. -/
abbrev LegalPair (s : State) : Prop :=
  let p := (s.config.extractLsb' 0 3).toNat
  let init := (s.config.extractLsb' 3 2).toNat
  init ≠ 3 ∧ (p = 2 ∨ p = 3) ∨ init = 1 ∧ (p = 0 ∨ p = 1 ∨ p = 4) ∨ init = 2 ∧ p = 1

/-- The protocols that send, with the payloads their framers refuse (R185 to R187). -/
abbrev FramerRefuses (s : State) (bs : List Byte) : Prop :=
  bs = [] ∧ s.proto ∈ [some .iso9141, some .iso14230, some .j1850, some .raw] ∨
    s.proto = some .iso9141 ∧ 7 < bs.length ∨
    s.proto = some .j1850 ∧ s.params.j1850MaxPayload < bs.length

/-- A receive on a J1850 link whose L0FLAGS lack DOES_L2_FRAME (bit 0): not supported (R208). -/
abbrev NoFraming (s : State) : Prop := s.proto = some .j1850 ∧ s.l0flags.getLsbD 0 = false

/-- The events of a byte-by-byte `emit` of k bytes, n ticks in each gap (R189). -/
def bytewiseScript (n : Nat) : Nat → List Input
  | 0 => []
  | 1 => acked
  | k + 2 => acked ++ waited n ++ bytewiseScript n (k + 1)

/-- The events of an `emit` of a frame that is answered Ok, n ticks in each gap (R189). -/
def emitScript (s : State) (n : Nat) (frame : List Byte) : List Input :=
  if ByteByByte s frame then bytewiseScript n frame.length else acked

/-- The L0 operations of an `emit` of a frame that is answered Ok (R189). -/
def emitEvents (s : State) (frame : List Byte) : List L0Event :=
  if ByteByByte s frame then frame.map fun b => okEvent (.send [b]) else [okEvent (.send frame)]

/-- s once the frame is on the wire, the events `rest` still to come (R189). -/
def afterFrame (s : State) (n : Nat) (frame : List Byte) (rest : List Input) : State :=
  { s with
    lasttx := some frame
    now := s.now + BitVec.ofNat 32 (if ByteByByte s frame then n * (frame.length - 1) else 0)
    arb := .idle
    history := s.history ++ emitEvents s frame
    inputs := rest }

/-- The number of L0 operations of an `emit` of a frame (R189). -/
def emitCount (s : State) (frame : List Byte) : Nat := if ByteByByte s frame then frame.length else 1

/-- The events of an `emit` whose first k operations are answered Ok, n ticks in the gap after each, and
whose next one is answered with an error (R189). -/
def failScript (n k : Nat) (e : L0Err) : List Input :=
  (List.replicate k (acked ++ waited n)).flatten ++ gotErr e

/-- s once operation k of an `emit`, counted from 0, has failed: the k bytes before it are on the wire,
LASTTX is as before, and the error ends the command (R183, R189). -/
def afterFailure (s : State) (n k : Nat) (frame : List Byte) (e : L0Err) (rest : List Input) : State :=
  { ended s e.toCode with
    now := s.now + BitVec.ofNat 32 (n * k)
    arb := .idle
    history := s.history ++ ((frame.take k).map fun b => okEvent (.send [b])) ++
      [errEvent (.send (if ByteByByte s frame then (frame.drop k).take 1 else frame)) e]
    inputs := rest }

/-- An ISO9141 response frame as it is received: with its checksum, unless the L0 device strips it
(R199). -/
def response9141 (s : State) (src : Byte) (payload : List Byte) : List Byte :=
  [0x48, 0x6B, src] ++ payload ++
    (if s.l0Has .stripsL2Checksum then [] else [checksum ([0x48, 0x6B, src] ++ payload)])

/-- The wait for more frames: TP3MIN, extended by P3_EXT where L0FLAGS.DOES_L2_FRAME (bit 0) is set
(R193). -/
def waitMore (s : State) : Nat :=
  s.tp3min.toNat + if s.l0flags.getLsbD 0 = true then s.params.p3Ext else 0

/-- The number of bytes of a received frame's checksum or CRC: 0 where L0FLAGS.STRIPS_L2_CHECKSUM (bit 2)
is set (R199, R210). -/
def trailer (s : State) : Nat := if s.l0flags.getLsbD 2 = true then 0 else 1

/-- The message of an ISO9141 response frame (R199). -/
def message9141 (src : Byte) (payload : List Byte) (ts : Word) : Message :=
  ⟨payload, src, 0x6B, 0x7, ts⟩

/-- The decoder does not split `f` (R198). -/
def NoSplit (s : State) (f : List Byte) : Prop :=
  ∀ k, frameLen9141 s f = some k → ¬(1 ≤ k ∧ k < f.length)

/-- The reads that collect the chunks `cs` in a buffer of 64 bytes that holds `sofar`, each for the space
left: the first with time-out t, the others with t' (R196, R253). -/
def chunkReads (t' : Nat) : Nat → Nat → List (List Byte) → List L0Event
  | _, _, [] => []
  | sofar, t, c :: cs => dataEvent (64 - sofar) t c :: chunkReads t' (sofar + c.length) t' cs

/-- The reads that accumulate one ISO9141 frame of fewer than 64 bytes, read in the chunks `cs`, up to the
read that answers an error: the first with time-out t, the others with T_ib (R195, R196). -/
def accumReads (tib : Nat) (e : L0Err) (t : Nat) (cs : List (List Byte)) : List L0Event :=
  chunkReads tib 0 t cs ++ [recvErr (64 - cs.flatten.length) (if cs = [] then t else tib) e]

/-- A J1850 frame (R210). -/
structure Frame1850 where
  fmt : Byte
  dest : Byte
  src : Byte
  payload : List Byte

/-- The bytes of a J1850 frame as it is received: with its CRC, unless the L0 device strips it (R210). -/
def Frame1850.bytes (s : State) (f : Frame1850) : List Byte :=
  [f.fmt, f.dest, f.src] ++ f.payload ++
    (if s.l0Has .stripsL2Checksum then [] else [crc8 ([f.fmt, f.dest, f.src] ++ f.payload)])

/-- The message of a J1850 frame (R210). -/
def Frame1850.message (f : Frame1850) (ts : Word) : Message := ⟨f.payload, f.src, f.dest, 0x7, ts⟩

/-- The reads of a J1850 receive: the first with time-out t, the others with TP3MIN (R209). -/
def reads1850 (tp3 : Nat) : Nat → List (List Byte) → List L0Event
  | _, [] => []
  | t, d :: ds => dataEvent 64 t d :: reads1850 tp3 tp3 ds

/-- The read with time-out t that ends a J1850 receive after the frames `ds`: with TP3MIN where there was
one (R209). -/
def last1850 (tp3 t : Nat) (ds : List (List Byte)) (e : L0Err) : L0Event :=
  recvErr 64 (if ds = [] then t else tp3) e

/-- The reads of a J1850 receive up to a contention, whose frames `ds` are lost (R209, R212). -/
def lost1850 (s : State) (ds : List (List Byte)) : List L0Event :=
  reads1850 s.tp3min.toNat s.timeout.toNat ds ++
    [last1850 s.tp3min.toNat s.timeout.toNat ds .busError]

/-- The events of the contentions of a J1850 receive: for each the frames read before it, the bus error,
and the resend answered Ok (R209, R212). -/
def resendScript (rounds : List (List (List Byte))) : List Input :=
  (rounds.map fun ds => (ds.map got).flatten ++ gotErr .busError ++ acked).flatten

/-- The L0 operations of the contentions of a J1850 receive that resends f (R209, R212). -/
def resendEvents (s : State) (f : List Byte) (rounds : List (List (List Byte))) : List L0Event :=
  (rounds.map fun ds => lost1850 s ds ++ [okEvent (.send f)]).flatten

/-- Each read of these holds 1 to 64 bytes, as the contract of a read of 64 bytes says (R58). -/
abbrev FullReads (ds : List (List Byte)) : Prop := ∀ d ∈ ds, 1 ≤ d.length ∧ d.length ≤ 64

/-- The answer to the poll of L3_PROBE: bytes, or a Timeout where there are none (R254). -/
def polled (a : List Byte) : List Input := if a = [] then gotErr .timeout else got a

/-- The record of the poll of L3_PROBE, with its zero time-out and the space left as its bound (R253,
R254). -/
def pollEvent (s : State) (a : List Byte) : L0Event :=
  if a = [] then recvErr (64 - s.l3buf.length) 0 .timeout else dataEvent (64 - s.l3buf.length) 0 a

/-- The events of a byte path that polls `a`, reads b in L3_NORMAL and the chunks `cs` in L3_DRAIN
(R254). -/
def byteScript (a b : List Byte) (cs : List (List Byte)) : List Input :=
  polled a ++ ((b :: cs).map got).flatten

/-- The L0 operations of that byte path: TIMEOUT is the time-out of L3_NORMAL, and DRAIN_MS = 5 that of
L3_DRAIN (R253, R254). -/
def byteReads (s : State) (a b : List Byte) (cs : List (List Byte)) : List L0Event :=
  pollEvent s a :: chunkReads 5 (s.l3buf.length + a.length) s.timeout.toNat (b :: cs)

/-- The bytes at the head of L3BUF are no whole message yet, and none that no message can begin (R243,
R247). -/
abbrev Partial (p : Params) (b : List Byte) : Prop :=
  expectedLength p b = .incomplete ∨ ∃ n, expectedLength p b = .ok n ∧ b.length < n

/-- The message of the byte path (R249). -/
def messageL3 (ts : Word) (m : List Byte) : Message := ⟨m, m.getD 2 0, m.getD 1 0, 0x1, ts⟩

/-- The free places of MSGQ (R250). -/
def roomLeft (s : State) : Nat := 16 - s.msgq.length

/-- The byte path serves this L3_RECV: a session without framing, on a link other than VAG, with a free
place in MSGQ (R250, R253). -/
abbrev BytePath (s : State) : Prop :=
  s.l3active = true ∧ s.has .doesL2Frame = false ∧ s.proto ≠ some .vag ∧ s.msgq.length < 16

/-- Feeding a byte stream to the reassembly loop in reads, each with a time of its own (R258). -/
def feed (p : Params) (room : Nat) : List (Word × List Byte) → List Byte → List Message × List Byte
  | [], buf => ([], buf)
  | (now, c) :: cs, buf =>
    let r := reassemble p now room (buf ++ c)
    let (out, rest) := feed p room cs r.buf
    (r.out ++ out, rest)

/-- What the L3 engine makes of a message of the byte path, but for the timestamp (R249). -/
def content (m : Message) : List Byte × Byte × Byte × BitVec 4 := (m.data, m.src, m.dest, m.flags)

/-- The commands that issue no L0 operation and no sleep (R109). -/
def localCommands : List String :=
  ["NOP", "CKS_INIT", "CKS_ADD", "CKS_BUF", "CKS_CHECK", "CRC_INIT", "CRC_ADD", "CRC_BUF",
    "CRC_CHECK", "MSG_POP", "L3_START", "L3_STOP", "STOP"]

/-- The codes each command can report (R292), OK among them, and Timeout for SEND, whose fast-init
transaction reports the L0 device's answer (R163, log entry 13). -/
def mayReport : Instr → List ErrCode
  | .nop => [.ok]
  | .cksInit => [.ok]
  | .cksAdd _ => [.ok]
  | .crcInit => [.ok]
  | .crcAdd _ => [.ok]
  | .msgPop => [.ok]
  | .cksBuf => [.ok, .badLength]
  | .cksCheck => [.ok, .badLength]
  | .crcBuf => [.ok, .badLength]
  | .crcCheck => [.ok, .badLength]
  | .start =>
    [.ok, .illegalCommand, .protocolNotSupported, .timeout, .wrongKeyBytes, .busError, .ioError]
  | .stop => [.ok, .illegalCommand]
  | .send =>
    [.ok, .illegalCommand, .badLength, .protocolNotSupported, .busError, .ioError, .timeout]
  | .recv =>
    [.ok, .illegalCommand, .timeout, .badData, .badLength, .protocolNotSupported, .busError,
      .ioError, .noMemory]
  | .request =>
    [.ok, .illegalCommand, .timeout, .badData, .badLength, .protocolNotSupported, .busError,
      .ioError, .noMemory]
  | .l3Start => [.ok, .illegalCommand]
  | .l3Stop => [.ok, .illegalCommand]
  | .l3Send => [.ok, .illegalCommand, .badLength, .protocolNotSupported, .busError, .ioError]
  | .l3Recv =>
    [.ok, .illegalCommand, .noMemory, .timeout, .badData, .badLength, .protocolNotSupported,
      .busError, .ioError]
  | .l3Keepalive =>
    [.ok, .illegalCommand, .timeout, .badData, .badLength, .protocolNotSupported, .busError,
      .ioError]

/-- An answer that the operation's contract admits (R57 to R59). -/
def AnswerOk : L0Op → L0Answer → Prop
  | .ack (.send _), .err e => e ≠ .timeout
  | .ack _, .err _ => True
  | .ack _, .ok => True
  | .getFlags, .flags _ => True
  | .recv m _, .data d => 1 ≤ d.length ∧ d.length ≤ m
  | .recv _ _, .err _ => True
  | _, _ => False

end Sys2Proof.Claims

open Sys2Proof Sys2Proof.Machine Sys2Proof.Claims

/-! ### Encoding -/

/-- Decode and encode agree, both ways: every well-formed command is read back from its word, and a word
that decodes is the word of the well-formed command it decodes to, so that no bit of it is dropped (R90,
R94, R100). -/
def Obligations.DecodeEncodeRoundTrip : Prop :=
  (∀ i : Instr, i.wellFormed = true → decode (encode i) = .ok i) ∧
  (∀ (w : Word) (i : Instr), decode w = .ok i → i.wellFormed = true ∧ encode i = w)

/-- R94, whole: which words are no command, what such a word does, and that the decoder is the one that
opcode_table.json gives. -/
def Obligations.DecodingRule : Prop :=
  (∀ w : Word, (∃ e, decode w = .error e) ↔
    (w.extractLsb' 0 8).toNat ∈
        [5, 6, 7, 0xC, 0xD, 0xE, 0xF, 0x16, 0x17] ∨ 0x1D ≤ (w.extractLsb' 0 8).toNat ∨
      w.extractLsb' 16 16 ≠ 0 ∨
      ((w.extractLsb' 0 8).toNat ≠ 0x02 ∧ (w.extractLsb' 0 8).toNat ≠ 0x09 ∧
        w.extractLsb' 8 8 ≠ 0)) ∧
  (∀ (s : State) (w : Word) (e : DecodeError) (rest : List Input), s.modelFault = none →
    s.estate = .decode w → decode w = .error e → s.inputs = .engine :: rest →
    step s = .next { ended s .illegalCommand with inputs := rest }) ∧
  (∀ (w : Word) (i : Instr), decode w = .ok i →
    ∃ r ∈ opcodeTable, r.mnemonic = i.mnemonic ∧ r.holds w = true ∧
      ∀ r' ∈ opcodeTable, r'.holds w = true → r' = r) ∧
  (∀ (w : Word) (e : DecodeError), decode w = .error e → ∀ r ∈ opcodeTable, r.holds w = false)

/-- R105: the four words of the worked example. -/
def Obligations.WorkedEncodingExamples : Prop :=
  encode (.cksAdd 0x48) = 0x00004802 ∧ opcField 0x00004802 = 0x02 ∧ imm8Field 0x00004802 = 0x48 ∧
  encode .start = 0x00000010 ∧
  (∃ e, decode 0x00010001 = .error e) ∧ decode 0x00004801 = .error .operandInC0

/-- The engine runs the command that the pending word decodes to: the step is exec of it, at the state
whose next event is the one after the engine's (R107); where exec ends in a model fault, the step leads
to the fault state that it names (R300). That every other field is then as it was before the command is
the model's choice (log entry 17). -/
def Obligations.StepRunsDecodedCommand : Prop :=
  ∀ (s : State) (w : Word) (i : Instr) (rest : List Input), s.modelFault = none →
    s.estate = .decode w → decode w = .ok i → s.inputs = .engine :: rest →
    step s =
      match exec i { s with inputs := rest } with
      | .next t => .next t
      | .fault f => .next { s with inputs := rest, modelFault := some f }
      | .refused r => .refused r

/-- A running command, run to its end at once as exec does, ends where single steps lead (R107). -/
def Obligations.CommandRunIsItsSteps : Prop :=
  ∀ s : State, s.modelFault = none → s.estate.running = true →
    ∃ k, Host.Core.run Sys2Proof.core k s = .next (runCommand s)

/-! ### The host port -/

/-- R22: a write to CMD starts the command the word encodes and sets BUSY in the same access; CMD reads
0; a write to CMD while BUSY = 1 is a violation, which stops the model (R300). That the violation leaves
every other field as it was is the model's choice (log entry 17). -/
def Obligations.CmdWriteStartsCommand : Prop :=
  ∀ s : State, s.modelFault = none →
    (s.busy = false → ∀ w, WritesTo s 0x000 w { s with busy := true, estate := .decode w }) ∧
    (s.busy = false → Reads s 0x000 0) ∧
    (s.busy = true → ∀ w rest, step (writing s 0x000 w rest) =
      .next { s with modelFault := some .writeWhileBusy, inputs := rest })

/-- R74: a host read or write stops the model in BadHostAccess exactly when it is not a 32-bit access at
an offset of the window that is a multiple of 4. That the violation leaves every other field as it was is
the model's choice (log entry 17). -/
def Obligations.IllegalAccessFaults : Prop :=
  ∀ (s : State) (address bytes : Nat) (v : Word) (rest : List Input), s.modelFault = none →
    let stopped := { s with modelFault := some .badHostAccess, inputs := rest }
    let illegal := ∀ off, Legal off → address = s.params.blockBase + off → bytes ≠ 4
    (step { s with inputs := .hostRead address bytes :: rest } = .next stopped ↔ illegal) ∧
    (step { s with inputs := .hostWrite address bytes v :: rest } = .next stopped ↔ illegal)

/-- R79: while BUSY = 1 a read of STATUS gives the exact BUSY bit, a read of NOW the exact counter, a
read of any other offset some value, and no read changes the block; every write is a violation, which
stops the model. The statement holds whatever the free values are. That the violation leaves every other
field as it was is the model's choice (log entry 17). -/
def Obligations.AccessesWhileBusy : Prop :=
  ∀ (s : State) (off : Nat) (rest : List Input), s.modelFault = none → s.busy = true →
    Legal off →
    (∃ v : Word, step (reading s off rest) =
        .next { s with readData := v, freeReads := s.freeReads + 1, inputs := rest } ∧
      (off = 0x004 → v.getLsbD 0 = true) ∧ (off = 0x058 → v = s.now)) ∧
    ∀ w : Word, step (writing s off w rest) =
      .next { s with modelFault := some .writeWhileBusy, inputs := rest }

/-- R54: an unmapped offset reads 0 and ignores writes, and writes to RO registers are ignored. -/
def Obligations.ReadOnlyAndUnmapped : Prop :=
  ∀ s : State, Ready s →
    (∀ off, Legal off → off < 0x100 → off ∉ roOffsets → off ∉ writableOffsets →
      Reads s off 0 ∧ ∀ v, WritesTo s off v s) ∧
    (∀ off, Legal off → off ∈ roOffsets ∨ 0x200 ≤ off → ∀ v, WritesTo s off v s) ∧
    Reads s 0x000 0

/-- R55: CONFIG, ADDR and SPEED take a write only while the link is DOWN; TIMEOUT, TXLEN and TXBUF take
it in every link state. -/
def Obligations.ConfigurationWrites : Prop :=
  ∀ (s : State) (v : Word), Ready s →
    (s.link = .down →
      WritesTo s 0x008 v { s with config := v.extractLsb' 0 6 } ∧
      WritesTo s 0x00C v { s with addr := v.extractLsb' 0 16 } ∧
      WritesTo s 0x010 v { s with speed := v }) ∧
    (s.link ≠ .down → WritesTo s 0x008 v s ∧ WritesTo s 0x00C v s ∧ WritesTo s 0x010 v s) ∧
    WritesTo s 0x014 v { s with timeout := v.extractLsb' 0 16 } ∧
    WritesTo s 0x040 v { s with txlen := v.extractLsb' 0 8 } ∧
    ∀ i, i < 64 →
      WritesTo s (0x100 + 4 * i) v { s with txbuf := s.txbuf.write i (v.extractLsb' 0 8) }

/-- A byte written to TXBUF[i] is what the entry then reads, every other entry holds what it held, and
an entry that has been written reads its byte (R38, R51). -/
def Obligations.TxbufReadAfterWrite : Prop :=
  ∀ (s t : State) (i : Nat) (v : Word) (rest : List Input), Ready s → i < 64 →
    step (writing s (0x100 + 4 * i) v rest) = .next t →
    t.txbuf.read i = some (v.extractLsb' 0 8) ∧ (∀ j, j ≠ i → t.txbuf.read j = s.txbuf.read j) ∧
    (∀ j b, j < 64 → t.txbuf.read j = some b →
      Reads t (0x100 + 4 * j) (b.zeroExtend 32))

/-- R42: the view of the head message, and 0 everywhere where MSGQ is empty. MSGLEN is the length where
it fits the register's 8 bits, as every length in bounds does (R40). -/
def Obligations.HeadMessageView : Prop :=
  ∀ s : State, Ready s →
    (s.msgq = [] →
      Reads s 0x048 0 ∧ Reads s 0x04C 0 ∧ Reads s 0x050 0 ∧ Reads s 0x054 0 ∧
      ∀ i, i < 64 → Reads s (0x200 + 4 * i) 0) ∧
    (∀ m q, s.msgq = m :: q → m.data.length ≤ 64 →
      Reads s 0x048 (BitVec.ofNat 32 m.data.length) ∧
      (∃ a, Reads s 0x04C a ∧ a.extractLsb' 0 8 = m.src ∧ a.extractLsb' 8 8 = m.dest ∧
        a.extractLsb' 16 16 = 0) ∧
      Reads s 0x050 (m.flags.zeroExtend 32) ∧ Reads s 0x054 m.ts ∧
      ∀ i, i < 64 → Reads s (0x200 + 4 * i)
        (if h : i < m.data.length then m.data[i].zeroExtend 32 else 0))

/-- What the host reads of every register but the head view and TXBUF, in every state in which no command
runs: STATUS with its fields where rule R23 puts them and the codes of rules R23 and R290, and the others
as rules R24 to R29, R33 to R37, R39 and R43 to R45 say, each in the low bits of its word with 0 above.
MSGCNT and L3STAT are stated within the bounds of rules R39 and R43. -/
def Obligations.StatusWordFields : Prop :=
  ∀ s : State, Ready s →
    (∃ v : Word, Reads s 0x004 v ∧
      v.getLsbD 0 = false ∧ v.getLsbD 1 = s.verify ∧
      v.extractLsb' 2 2 = (match s.link with | .down => 0 | .fastPending => 1 | .up => 2) ∧
      v.extractLsb' 4 4 = 0 ∧ v.extractLsb' 16 16 = 0 ∧
      v.extractLsb' 8 8 = (match s.err with
        | .ok => 0x00 | .timeout => 0x01 | .incompleteData => 0x02 | .badData => 0x03
        | .wrongKeyBytes => 0x04 | .busError => 0x05 | .protocolNotSupported => 0x06
        | .noMemory => 0x07 | .badLength => 0x08 | .ioError => 0x09 | .illegalCommand => 0x0A)) ∧
    Reads s 0x008 (BitVec.ofNat 32 s.config.toNat) ∧
    Reads s 0x00C (BitVec.ofNat 32 s.addr.toNat) ∧
    Reads s 0x010 s.speed ∧ Reads s 0x014 (BitVec.ofNat 32 s.timeout.toNat) ∧
    Reads s 0x018 (BitVec.ofNat 32 s.l0flags.toNat) ∧
    Reads s 0x01C (BitVec.ofNat 32 s.flags.toNat) ∧
    Reads s 0x020 (BitVec.ofNat 32 s.keybytes.toNat) ∧
    Reads s 0x024 (BitVec.ofNat 32 s.tp1max.toNat) ∧
    Reads s 0x028 (BitVec.ofNat 32 s.tp2min.toNat) ∧
    Reads s 0x02C (BitVec.ofNat 32 s.tp3min.toNat) ∧
    Reads s 0x030 (BitVec.ofNat 32 s.tp4min.toNat) ∧
    Reads s 0x034 (BitVec.ofNat 32 s.cksum.toNat) ∧
    Reads s 0x038 (BitVec.ofNat 32 s.crcreg.toNat) ∧
    Reads s 0x03C (BitVec.ofNat 32 (255 - s.crcreg.toNat)) ∧
    Reads s 0x040 (BitVec.ofNat 32 s.txlen.toNat) ∧
    (s.msgq.length ≤ 16 → Reads s 0x044 (BitVec.ofNat 32 s.msgq.length)) ∧
    Reads s 0x058 s.now ∧
    (s.l3buf.length ≤ 64 → Reads s 0x05C
      (BitVec.ofNat 32 (256 * s.l3buf.length + if s.l3active then 1 else 0))) ∧
    Reads s 0x060 s.l3idle ∧ Reads s 0x064 (BitVec.ofNat 32 s.retries.toNat) ∧
    ∀ i, i < 64 → Reads s (0x300 + 4 * i)
      (if h : i < s.l3buf.length then BitVec.ofNat 32 s.l3buf[i].toNat else 0)

/-! ### Time, sleep and reset -/

/-- A tick adds 1 to NOW and changes nothing else, whatever the engine does; a command moves NOW by the
ticks among the events it takes and by nothing else (R45). -/
def Obligations.NowCountsTicks : Prop :=
  (∀ (s : State) (rest : List Input), s.modelFault = none → s.inputs = .tick :: rest →
    step s = .next { s with now := s.now + 1, inputs := rest }) ∧
  ∀ (i : Instr) (s t : State), exec i s = .next t →
    ∃ taken, s.inputs = taken ++ t.inputs ∧ t.now = s.now + BitVec.ofNat 32 (taken.count .tick)

/-- R46: a sleep of 0 continues at once; any other holds the engine, with no L0 operation, while fewer
than d milliseconds have passed, and then lets it continue. -/
def Obligations.SleepHoldsTheEngine : Prop :=
  (∀ (s : State) (k : SleepKont), sleepThen s 0 k = wake s k) ∧
  (∀ (s : State) (d : Nat) (k : SleepKont), d ≠ 0 →
    sleepThen s d k = { s with estate := .sleeping s.now d k }) ∧
  ∀ (s : State) (t0 : Word) (d : Nat) (k : SleepKont) (rest : List Input),
    s.modelFault = none → s.estate = .sleeping t0 d k → s.inputs = .engine :: rest →
    ((s.now - t0).toNat < d → step s = .next { s with inputs := rest }) ∧
    (d ≤ (s.now - t0).toNat → step s = .next (wake { s with inputs := rest } k))

/-- The reset input puts every piece of state into its reset value in one step, whatever the engine does
and in the fault state too, and issues no L0 operation; an answer that comes later is discarded (R64,
R300, R320). That the record of the wire keeps what it had, an operation in flight joining it without an
answer, is the model's choice (log entry 10). -/
def Obligations.ResetSequence : Prop :=
  ∀ (s : State) (rest : List Input), s.inputs = .reset :: rest →
    ∃ t, step s = .next t ∧
      t.busy = false ∧ t.verify = false ∧ t.link = .down ∧ t.err = .ok ∧ t.config = 0 ∧ t.addr = 0 ∧
      t.speed = 0 ∧ t.timeout = 0 ∧ t.l0flags = 0 ∧ t.flags = 0 ∧ t.keybytes = 0 ∧ t.tp1max = 0 ∧
      t.tp2min = 0 ∧ t.tp3min = 0 ∧ t.tp4min = 0 ∧ t.cksum = 0 ∧ t.crcreg = 0xFF ∧ t.txlen = 0 ∧
      (∀ i, t.txbuf.read i = none) ∧ t.msgq = [] ∧ t.retries = 0 ∧ t.now = 0 ∧ t.l3active = false ∧
      t.l3buf = [] ∧ t.l3idle = 0 ∧ t.estate = .idle ∧ t.fastbuf = [] ∧ t.lasttx = none ∧
      t.arb = .idle ∧ t.modelFault = none ∧ t.params = s.params ∧ t.inputs = rest ∧
      t.history = s.history ++ (match s.estate.inFlight with
        | some op => [⟨op, none⟩]
        | none => []) ∧
      ∀ a, t.answer a = t

/-- R65: what the host reads right after reset, and the hidden state. -/
def Obligations.ResetValues : Prop :=
  (∀ off ∈ [0x004, 0x008, 0x00C, 0x010, 0x014, 0x018, 0x01C, 0x020, 0x024, 0x028, 0x02C, 0x030,
      0x034, 0x03C, 0x040, 0x044, 0x048, 0x04C, 0x050, 0x054, 0x058, 0x05C, 0x060, 0x064],
    Reads State.reset off 0) ∧
  Reads State.reset 0x038 0xFF ∧
  (∀ i, i < 64 → State.reset.txw i = false ∧ Reads State.reset (0x200 + 4 * i) 0 ∧
    Reads State.reset (0x300 + 4 * i) 0) ∧
  State.reset.estate = .idle ∧ State.reset.fastbuf = [] ∧ State.reset.lasttx = none ∧
  State.reset.arb = .idle

/-! ### The checksum and CRC generator -/

/-- R111: the laws of the checksum. -/
def Obligations.ChecksumLaws : Prop :=
  (∀ s t : List Byte, checksum (s ++ t) = checksum s + checksum t) ∧
  (∀ s t : List Byte, s.Perm t → checksum s = checksum t) ∧
  (∀ s : List Byte, (s ++ [checksum s]).getLast? = some (checksum (s ++ [checksum s]).dropLast)) ∧
  (∀ (s : List Byte) (i : Nat) (b : Byte), i < (s ++ [checksum s]).length →
    (s ++ [checksum s])[i]? ≠ some b →
    ((s ++ [checksum s]).set i b).getLast? ≠
      some (checksum ((s ++ [checksum s]).set i b).dropLast)) ∧
  ∃ (s : List Byte) (i j : Nat) (b c : Byte), i ≠ j ∧ i < s.length ∧ j < s.length ∧
    s[i]? ≠ some b ∧ s[j]? ≠ some c ∧
    (((s ++ [checksum s]).set i b).set j c).getLast? =
      some (checksum (((s ++ [checksum s]).set i b).set j c).dropLast)

/-- The laws of the CRC, with its reference values (R115), and the per-bit table that gives the register of
the feedback form for every register and bit (R113). -/
def Obligations.CrcLaws : Prop :=
  ((∀ s t : List Byte, crcReg (s ++ t) = crcFrom (crcReg s) t) ∧
   (∀ s : List Byte, crcReg (s ++ [crc8 s]) = 0xC4) ∧
   (∀ (s : List Byte) (i : Nat) (b : Byte), i < (s ++ [crc8 s]).length →
     (s ++ [crc8 s])[i]? ≠ some b →
     ((s ++ [crc8 s]).set i b).getLast? ≠ some (crc8 ((s ++ [crc8 s]).set i b).dropLast)) ∧
   crc8 [0x31, 0x32, 0x33, 0x34, 0x35, 0x36, 0x37, 0x38, 0x39] = 0x4B ∧
   crc8 [0x68, 0x6A, 0xF1, 0x01, 0x00] = 0x17) ∧
  (∀ (c : Byte) (x : Bool), crcStepTable c x = crcStep c x)

/-- CKS_INIT, CKS_ADD, CRC_INIT and CRC_ADD: the accumulator takes the value the rule gives and nothing
else changes but the end of the command (R117, R118, R121, R122). -/
def Obligations.AccumulatorCommands : Prop :=
  ∀ (s : State) (b : Nat), b ≤ 255 →
    exec .cksInit s = .next { ended s .ok with cksum := 0x00 } ∧
    exec (.cksAdd b) s =
      .next { ended s .ok with cksum := BitVec.ofNat 8 ((s.cksum.toNat + b) % 256) } ∧
    exec .crcInit s = .next { ended s .ok with crcreg := 0xFF } ∧
    exec (.crcAdd b) s = .next { ended s .ok with crcreg := crcByte s.crcreg (BitVec.ofNat 8 b) }

/-- CKS_BUF and CRC_BUF on a written buffer, and BadLength above TXCAP, with nothing else changed (R119,
R123). -/
def Obligations.BufferCommands : Prop :=
  (∀ (s : State) (bs : List Byte), TxHolds s bs →
    exec .cksBuf s = .next { ended s .ok with cksum := s.cksum + checksum bs } ∧
    exec .crcBuf s = .next { ended s .ok with crcreg := crcFrom s.crcreg bs }) ∧
  ∀ s : State, 64 < s.txlen.toNat →
    exec .cksBuf s = .next (ended s .badLength) ∧ exec .crcBuf s = .next (ended s .badLength)

/-- CKS_CHECK and CRC_CHECK: VERIFY is 1 exactly when there is a last byte and it is the checksum or CRC
of the bytes before it; CKSUM and CRCREG keep their values (R120, R124). -/
def Obligations.CheckCommands : Prop :=
  (∀ (s : State) (bs : List Byte), TxHolds s bs →
    (∃ v, exec .cksCheck s = .next { ended s .ok with verify := v } ∧
      (v = true ↔ ∃ h : bs ≠ [], bs.getLast h = checksum bs.dropLast)) ∧
    (∃ v, exec .crcCheck s = .next { ended s .ok with verify := v } ∧
      (v = true ↔ ∃ h : bs ≠ [], bs.getLast h = crc8 bs.dropLast))) ∧
  ∀ s : State, 64 < s.txlen.toNat →
    exec .cksCheck s = .next (ended s .badLength) ∧ exec .crcCheck s = .next (ended s .badLength)

/-- What reading TXBUF can stop: an unwritten entry below TXLEN is UnwrittenTxbuf for every command that
reads TXBUF, where the command gets as far as reading it; TXLEN above TXCAP is BadLength for the sending
commands, without an L0 operation (R116). And what a model fault does: no rule applies to the next events
until the reset input, which statement ResetSequence says is taken in every state (R300). That the block
keeps its fields meanwhile, and that a run with no event to come ends in the fault, is the model's choice
(log entry 17). -/
def Obligations.UnwrittenEntryFaults : Prop :=
  (∀ (s : State) (i : Nat), s.txlen.toNat ≤ 64 → i < s.txlen.toNat → s.txbuf.read i = none →
    exec .cksBuf s = .fault .unwrittenTxbuf ∧ exec .cksCheck s = .fault .unwrittenTxbuf ∧
    exec .crcBuf s = .fault .unwrittenTxbuf ∧ exec .crcCheck s = .fault .unwrittenTxbuf ∧
    (s.link = .fastPending ∨ (s.link = .up ∧ s.proto ≠ some .vag) →
      exec .send s = .fault .unwrittenTxbuf) ∧
    (s.link = .up → s.proto ≠ some .vag → exec .request s = .fault .unwrittenTxbuf) ∧
    (s.l3active = true → s.proto ≠ some .vag → exec .l3Send s = .fault .unwrittenTxbuf)) ∧
  (∀ s : State, 64 < s.txlen.toNat →
    (s.link = .fastPending ∨ (s.link = .up ∧ s.proto ≠ some .vag) →
      exec .send s = .next (ended s .badLength)) ∧
    (s.link = .up → s.proto ≠ some .vag →
      exec .request s = .next { ended s .badLength with retries := 0 }) ∧
    (s.l3active = true → s.proto ≠ some .vag →
      exec .l3Send s = .next (ended s .badLength))) ∧
  ∀ (s : State) (f : Fault), s.modelFault = some f →
    (∀ ev rest, ev ≠ .reset → s.inputs = ev :: rest → step s = .next { s with inputs := rest }) ∧
    (s.inputs = [] → step s = .fault f)

/-! ### System commands and states of the connection -/

/-- R106: NOP changes nothing but STATUS.ERR and the end of the command. -/
def Obligations.NopChangesOnlyErr : Prop := ∀ s : State, exec .nop s = .next (ended s .ok)

/-- R293: the commands out of their state complete with IllegalCommand and change nothing else, and the
commands that are legal in every state never report it. -/
def Obligations.IllegalOutOfState : Prop :=
  ∀ s : State,
    (s.link = .down → exec .send s = .next (ended s .illegalCommand)) ∧
    (s.link ≠ .up → exec .recv s = .next (ended s .illegalCommand) ∧
      exec .request s = .next (ended s .illegalCommand)) ∧
    (s.link ≠ .down → exec .start s = .next (ended s .illegalCommand)) ∧
    (s.l3active = true → exec .stop s = .next (ended s .illegalCommand)) ∧
    (s.l3active = true ∨ s.link ≠ .up → exec .l3Start s = .next (ended s .illegalCommand)) ∧
    (s.l3active = false → ∀ i ∈ [Instr.l3Stop, .l3Send, .l3Recv, .l3Keepalive],
      exec i s = .next (ended s .illegalCommand)) ∧
    ∀ (i : Instr) (t : State), i.mnemonic ∈ ["NOP", "CKS_INIT", "CKS_ADD", "CKS_BUF", "CKS_CHECK",
        "CRC_INIT", "CRC_ADD", "CRC_BUF", "CRC_CHECK", "MSG_POP"] →
      exec i s = .next t → t.err ≠ .illegalCommand

/-- STOP outside a session: the link is DOWN, FASTBUF and LASTTX are cleared, and nothing else changes;
inside a session it is IllegalCommand and leaves the link as it was (R165, R166). -/
def Obligations.StopReleasesTheLink : Prop :=
  ∀ s : State,
    (s.l3active = false →
      exec .stop s = .next { ended s .ok with link := .down, fastbuf := [], lasttx := none }) ∧
    (s.l3active = true → exec .stop s = .next (ended s .illegalCommand))

/-- START on a DOWN link completes with ProtocolNotSupported and no other effect exactly on the pairs that
the table does not make legal (R141, R142). Where the L0 device lacks the selected init it is
ProtocolNotSupported after the prologue, whose registers stay (R144). -/
def Obligations.StartRefusals : Prop :=
  (∀ s : State, s.link = .down →
     (exec .start s = .next (ended s .protocolNotSupported) ↔ ¬LegalPair s)) ∧
  (∀ (s : State) (p : Proto) (f : BitVec 9) (rest : List Input), s.link = .down → s.proto = some p →
     ((∃ v, SlowVariant p v) ∧ s.initMode = 1 ∧ hasCap f .slow = false) ∨
       (p = .iso14230 ∧ s.initMode = 2 ∧ hasCap f .fast = false) →
     s.inputs = acked ++ gotFlags f ++ rest →
     exec .start s = .next
       { ended (loaded s p f) .protocolNotSupported with
         history := s.history ++ prologueEvents s f
         inputs := rest })

/-- START of J1850 and RAW: the prologue's registers, LINK UP, two L0 operations and no more (R143,
R145). -/
def Obligations.StartWithoutInit : Prop :=
  ∀ (s : State) (p : Proto) (f : BitVec 9) (rest : List Input), s.link = .down →
    s.proto = some p → p = .j1850 ∨ p = .raw → s.initMode ≠ 3 →
    s.inputs = acked ++ gotFlags f ++ rest →
    exec .start s = .next
      { ended (loaded s p f) .ok with
        link := .up
        history := s.history ++ prologueEvents s f
        inputs := rest }

/-- START by the 5-baud handshake with accepted key bytes: LINK UP, KEYBYTES, the refined TP2MIN and the L0
operations in order. The block sends the inverted key byte 2 and reads the inverted address, unless the
L0 device does the acknowledgement itself. While fewer than T_IDLE_5BAUD ticks have come since the flush
it is asleep and has not issued init_bus, and while fewer than W4MIN have come since key byte 2 it is
asleep and has not sent the inverted byte (R146 to R155). -/
def Obligations.StartFiveBaud : Prop :=
  (∀ (s : State) (p : Proto) (v : KeyVariant) (f : BitVec 9) (n₁ n₂ : Nat) (k1 k2 : Byte)
     (rest : List Input), s.link = .down → s.proto = some p → SlowVariant p v → s.initMode = 1 →
     hasCap f .slow = true → hasCap f .doesSlowInit = false → kbOk v k1 k2 = true →
     s.params.tIdle5baud ≤ n₁ → n₁ < 2 ^ 32 → s.params.w4min ≤ n₂ → n₂ < 2 ^ 32 →
     s.inputs = keyByteScript f n₁ k1 k2 ++ waited n₂ ++ acked ++ got [~~~s.target] ++ rest →
     exec .start s = .next
       { ended (loaded s p f) .ok with
         link := .up
         keybytes := k2 ++ k1
         tp2min := refined k1 (loaded s p f).tp2min
         now := s.now + BitVec.ofNat 32 (n₁ + n₂)
         history := s.history ++ keyByteEvents s f k1 k2 ++
           [okEvent (.send [~~~k2]), dataEvent 1 s.params.w4max [~~~s.target]]
         inputs := rest }) ∧
  (∀ (s : State) (p : Proto) (v : KeyVariant) (f : BitVec 9) (n : Nat) (k1 k2 : Byte)
     (rest : List Input), s.link = .down → s.proto = some p → SlowVariant p v → s.initMode = 1 →
     hasCap f .slow = true → hasCap f .doesSlowInit = true → kbOk v k1 k2 = true →
     s.params.tIdle5baud ≤ n → n < 2 ^ 32 → s.inputs = keyByteScript f n k1 k2 ++ rest →
     exec .start s = .next
       { ended (loaded s p f) .ok with
         link := .up
         keybytes := k2 ++ k1
         tp2min := refined k1 (loaded s p f).tp2min
         now := s.now + BitVec.ofNat 32 n
         history := s.history ++ keyByteEvents s f k1 k2
         inputs := rest }) ∧
  (∀ (s : State) (p : Proto) (v : KeyVariant) (f : BitVec 9) (n : Nat), s.link = .down →
     s.proto = some p → SlowVariant p v → s.initMode = 1 → hasCap f .slow = true →
     n < s.params.tIdle5baud → s.inputs = acked ++ gotFlags f ++ acked ++ waited n →
     ∃ t, exec .start s = .next t ∧ Asleep t ∧ t.link = .down ∧
       t.history = s.history ++ prologueEvents s f ++ [okEvent .flush]) ∧
  (∀ (s : State) (p : Proto) (v : KeyVariant) (f : BitVec 9) (n₁ n₂ : Nat) (k1 k2 : Byte),
     s.link = .down → s.proto = some p → SlowVariant p v → s.initMode = 1 →
     hasCap f .slow = true → hasCap f .doesSlowInit = false → kbOk v k1 k2 = true →
     s.params.tIdle5baud ≤ n₁ → n₁ < 2 ^ 32 → n₂ < s.params.w4min →
     s.inputs = keyByteScript f n₁ k1 k2 ++ waited n₂ →
     ∃ t, exec .start s = .next t ∧ Asleep t ∧ t.link = .down ∧
       t.history = s.history ++ keyByteEvents s f k1 k2)

/-- Which key bytes each variant accepts; with others START is WrongKeyBytes, LINK DOWN, KEYBYTES kept, TP2MIN
at its default, and nothing sent; a last byte that is not the inverted address is WrongKeyBytes too. An
error of the L0 port at set_speed (of any START), flush, init_bus, either key byte, the send of the
inverted byte or the last read is reported unchanged, with the link DOWN, what START had written so far
kept, and no operation after it (R143, R147 to R151, R153, R154, R156). -/
def Obligations.StartWrongKeyBytes : Prop :=
  (∀ k1 k2 : Byte,
     (kbOk .v9141 k1 k2 = true ↔ k1 = k2 ∧ (k1 = 0x08 ∨ k1 = 0x94)) ∧
     kbOk .v14230 k1 k2 = true ∧
     (kbOk .vvag k1 k2 = true ↔ k1 = 0x01 ∧ k2 = 0x8A)) ∧
  (∀ (s : State) (p : Proto) (v : KeyVariant) (f : BitVec 9) (n : Nat) (k1 k2 : Byte)
     (rest : List Input), s.link = .down → s.proto = some p → SlowVariant p v → s.initMode = 1 →
     hasCap f .slow = true → kbOk v k1 k2 = false →
     s.params.tIdle5baud ≤ n → n < 2 ^ 32 → s.inputs = keyByteScript f n k1 k2 ++ rest →
     exec .start s = .next
       { ended (loaded s p f) .wrongKeyBytes with
         keybytes := k2 ++ k1
         now := s.now + BitVec.ofNat 32 n
         history := s.history ++ keyByteEvents s f k1 k2
         inputs := rest }) ∧
  (∀ (s : State) (e : L0Err) (rest : List Input), s.link = .down → LegalPair s →
     s.inputs = gotErr e ++ rest →
     exec .start s = .next
       { ended s e.toCode with
         keybytes := 0
         fastbuf := []
         lasttx := none
         arb := .idle
         history := s.history ++ [errEvent (.setSpeed s.speed) e]
         inputs := rest }) ∧
  (∀ (s : State) (p : Proto) (v : KeyVariant) (f : BitVec 9) (n₁ n₂ : Nat) (k1 k2 : Byte)
     (e : L0Err) (rest : List Input), s.link = .down → s.proto = some p → SlowVariant p v →
     s.initMode = 1 → hasCap f .slow = true → s.params.tIdle5baud ≤ n₁ → n₁ < 2 ^ 32 →
     let now₁ := s.now + BitVec.ofNat 32 n₁
     let flushed := prologueEvents s f ++ [okEvent .flush]
     let started := flushed ++ [okEvent (.initBus .fiveBaud s.target [])]
     (s.inputs = acked ++ gotFlags f ++ gotErr e ++ rest →
       exec .start s = .next
         { ended (loaded s p f) e.toCode with
           history := s.history ++ prologueEvents s f ++ [errEvent .flush e]
           inputs := rest }) ∧
     (s.inputs = acked ++ gotFlags f ++ acked ++ waited n₁ ++ gotErr e ++ rest →
       exec .start s = .next
         { ended (loaded s p f) e.toCode with
           now := now₁
           history := s.history ++ flushed ++ [errEvent (.initBus .fiveBaud s.target []) e]
           inputs := rest }) ∧
     (s.inputs = acked ++ gotFlags f ++ acked ++ waited n₁ ++ acked ++ gotErr e ++ rest →
       exec .start s = .next
         { ended (loaded s p f) e.toCode with
           now := now₁
           history := s.history ++ started ++ [recvErr 1 s.params.w2max e]
           inputs := rest }) ∧
     (s.inputs = acked ++ gotFlags f ++ acked ++ waited n₁ ++ acked ++ got [k1] ++ gotErr e ++ rest →
       exec .start s = .next
         { ended (loaded s p f) e.toCode with
           keybytes := (0 : Byte) ++ k1
           now := now₁
           history := s.history ++ started ++
             [dataEvent 1 s.params.w2max [k1], recvErr 1 s.params.w3max e]
           inputs := rest }) ∧
     (hasCap f .doesSlowInit = false → kbOk v k1 k2 = true → s.params.w4min ≤ n₂ → n₂ < 2 ^ 32 →
       let done := { loaded s p f with
         keybytes := k2 ++ k1
         tp2min := refined k1 (loaded s p f).tp2min
         now := s.now + BitVec.ofNat 32 (n₁ + n₂) }
       (e ≠ .timeout → s.inputs = keyByteScript f n₁ k1 k2 ++ waited n₂ ++ gotErr e ++ rest →
         exec .start s = .next
           { ended done e.toCode with
             history := s.history ++ keyByteEvents s f k1 k2 ++ [errEvent (.send [~~~k2]) e]
             inputs := rest }) ∧
       (s.inputs = keyByteScript f n₁ k1 k2 ++ waited n₂ ++ acked ++ gotErr e ++ rest →
         exec .start s = .next
           { ended done e.toCode with
             history := s.history ++ keyByteEvents s f k1 k2 ++
               [okEvent (.send [~~~k2]), recvErr 1 s.params.w4max e]
             inputs := rest }) ∧
       ∀ b, b ≠ ~~~s.target →
         s.inputs = keyByteScript f n₁ k1 k2 ++ waited n₂ ++ acked ++ got [b] ++ rest →
         exec .start s = .next
           { ended done .wrongKeyBytes with
             history := s.history ++ keyByteEvents s f k1 k2 ++
               [okEvent (.send [~~~k2]), dataEvent 1 s.params.w4max [b]]
             inputs := rest }))

/-- START of an ISO14230 fast init: LINK FAST_PENDING and FASTBUF empty, after the idle wait (none where
T_IDLE_FAST is 0) and no operation but the prologue's. While fewer than T_IDLE_FAST ticks have come since
the flags it is asleep, with the link DOWN (R159, R160). -/
def Obligations.StartFastInit : Prop :=
  ∀ (s : State) (f : BitVec 9) (n : Nat) (rest : List Input), s.link = .down →
    s.proto = some .iso14230 → s.initMode = 2 → hasCap f .fast = true →
    (s.params.tIdleFast ≤ n → n < 2 ^ 32 → (s.params.tIdleFast = 0 → n = 0) →
      s.inputs = acked ++ gotFlags f ++
        (if s.params.tIdleFast = 0 then [] else waited n) ++ rest →
      exec .start s = .next
        { ended (loaded s .iso14230 f) .ok with
          link := .fastPending
          now := s.now + BitVec.ofNat 32 n
          history := s.history ++ prologueEvents s f
          inputs := rest }) ∧
    (n < s.params.tIdleFast → s.inputs = acked ++ gotFlags f ++ waited n →
      ∃ t, exec .start s = .next t ∧ Asleep t ∧ t.link = .down ∧
        t.history = s.history ++ prologueEvents s f)

/-- A START that ends with an error leaves the link DOWN, wherever it failed (R156, R291); a SEND on a link
that is UP and that has not ended with OK leaves LASTTX, which takes only a complete successful emit
(R189). -/
def Obligations.FailedStartAndSend : Prop :=
  (∀ s t : State, s.link = .down → exec .start s = .next t → t.estate = .idle → t.err ≠ .ok →
     t.link = .down) ∧
  (∀ s t : State, s.link = .up → exec .send s = .next t → ¬(t.estate = .idle ∧ t.err = .ok) →
     t.lasttx = s.lasttx)

/-- SEND on a FAST_PENDING link: the bounds, the accumulation without an L0 operation, and the one
transaction at the fifth byte, which decides the link (R162, R163, R164). -/
def Obligations.FastInitAccumulation : Prop :=
  ∀ (s : State) (bs : List Byte), s.link = .fastPending → TxHolds s bs →
    (bs = [] ∨ 5 < s.fastbuf.length + bs.length → exec .send s = .next (ended s .badLength)) ∧
    (bs ≠ [] → s.fastbuf.length + bs.length < 5 →
      exec .send s = .next { ended s .ok with fastbuf := s.fastbuf ++ bs }) ∧
    (bs ≠ [] → s.fastbuf.length + bs.length = 5 →
      (∀ rest, s.inputs = acked ++ rest →
        exec .send s = .next
          { ended s .ok with
            link := .up
            fastbuf := []
            lasttx := some (s.fastbuf ++ bs)
            arb := .idle
            history := s.history ++ [okEvent (.initBus .fast s.target (s.fastbuf ++ bs))]
            inputs := rest }) ∧
      ∀ e rest, s.inputs = gotErr e ++ rest →
        exec .send s = .next
          { ended s e.toCode with
            link := .down
            fastbuf := []
            arb := .idle
            history := s.history ++ [errEvent (.initBus .fast s.target (s.fastbuf ++ bs)) e]
            inputs := rest })

/-! ### Sending -/

/-- R185: SEND on an ISO9141 link puts `68 6A <source> <payload>` on the wire, with the checksum unless
the L0 device adds it, as rule R189 emits a frame; a payload outside 1..7 is BadLength without an
operation. -/
def Obligations.SendIso9141Frame : Prop :=
  ∀ (s : State) (bs : List Byte), s.link = .up → s.proto = some .iso9141 → TxHolds s bs →
    (bs.length < 1 ∨ 7 < bs.length → exec .send s = .next (ended s .badLength)) ∧
    ∀ (frame : List Byte) (n : Nat) (rest : List Input), 1 ≤ bs.length → bs.length ≤ 7 →
      frame = [0x68, 0x6A, s.source] ++ bs ++
        (if s.l0Has .doesL2Checksum then [] else [checksum ([0x68, 0x6A, s.source] ++ bs)]) →
      s.tp4min.toNat ≤ n → n < 2 ^ 32 → s.inputs = emitScript s n frame ++ rest →
      exec .send s = .next (ended (afterFrame s n frame rest) .ok)

/-- R186: SEND on a J1850 link puts `<format> <target> <source> <payload>` on the wire in one operation,
with the CRC unless the device adds it; a payload outside 1..J1850_MAX_PAYLOAD is BadLength. -/
def Obligations.SendJ1850Frame : Prop :=
  ∀ (s : State) (bs : List Byte), s.link = .up → s.proto = some .j1850 → TxHolds s bs →
    (bs.length < 1 ∨ s.params.j1850MaxPayload < bs.length →
      exec .send s = .next (ended s .badLength)) ∧
    ∀ (header frame : List Byte) (rest : List Input), 1 ≤ bs.length →
      bs.length ≤ s.params.j1850MaxPayload →
      header = [if s.j1850Pwm then 0x61 else 0x68, s.target, s.source] →
      frame = header ++ bs ++ (if s.l0Has .doesL2Checksum then [] else [crc8 (header ++ bs)]) →
      s.inputs = acked ++ rest →
      exec .send s = .next
        { ended s .ok with
          lasttx := some frame
          arb := .idle
          history := s.history ++ [okEvent (.send frame)]
          inputs := rest }

/-- R187: SEND on a RAW or ISO14230 link puts the bytes themselves on the wire, as rule R189 emits a
frame; no byte is BadLength. -/
def Obligations.SendRawBytes : Prop :=
  ∀ (s : State) (bs : List Byte), s.link = .up →
    s.proto = some .raw ∨ s.proto = some .iso14230 → TxHolds s bs →
    (bs = [] → exec .send s = .next (ended s .badLength)) ∧
    ∀ (n : Nat) (rest : List Input), bs ≠ [] → s.tp4min.toNat ≤ n → n < 2 ^ 32 →
      s.inputs = emitScript s n bs ++ rest →
      exec .send s = .next (ended (afterFrame s n bs rest) .ok)

/-- SEND on any link that is UP, of any frame the framer builds: byte by byte, one L0.send for each, where
CONFIG.PROTO is ISO9141 or ISO14230, L0FLAGS.DOES_P4_WAIT is 0 and the frame has more than one byte, and
in one L0.send otherwise; LASTTX is the frame and nothing else changes. Between two bytes the command is
asleep: after k bytes and fewer than TP4MIN ticks the next byte has not been sent and LASTTX is as before.
An error other than Timeout, which L0.send does not answer (R59), at any of the operations ends SEND with
that error, with the operations before it and no other on the wire and LASTTX as before (R183, R189). -/
def Obligations.SendEmitsTheFrame : Prop :=
  ∀ (s : State) (bs frame : List Byte) (n : Nat), s.link = .up → TxHolds s bs →
    frameFor s bs = .ok frame → s.tp4min.toNat ≤ n → n < 2 ^ 32 →
    (∀ rest, s.inputs = emitScript s n frame ++ rest →
      exec .send s = .next (ended (afterFrame s n frame rest) .ok)) ∧
    (∀ k e rest, k < emitCount s frame → e ≠ .timeout → s.inputs = failScript n k e ++ rest →
      exec .send s = .next (afterFailure s n k frame e rest)) ∧
    (ByteByByte s frame → ∀ k m, 1 ≤ k → k < frame.length → m < s.tp4min.toNat →
      s.inputs = bytewiseScript n k ++ waited m →
      ∃ t, exec .send s = .next t ∧ Asleep t ∧ t.lasttx = s.lasttx ∧
        t.history = s.history ++ (frame.take k).map fun b => okEvent (.send [b]))

/-- A transfer on a VAG link is ProtocolNotSupported, without reading TXBUF and without an L0 operation
(R188); so is a receive on a J1850 link whose L0 device does no framing (R208). -/
def Obligations.UnsupportedTransfers : Prop :=
  (∀ s : State, s.proto = some .vag →
     (s.link = .up → exec .send s = .next (ended s .protocolNotSupported) ∧
       exec .recv s = .next { ended s .protocolNotSupported with retries := 0 } ∧
       exec .request s = .next { ended s .protocolNotSupported with retries := 0 }) ∧
     (s.l3active = true → exec .l3Send s = .next (ended s .protocolNotSupported) ∧
       (s.msgq.length < 16 →
         exec .l3Recv s = .next { ended s .protocolNotSupported with retries := 0 }))) ∧
  (∀ s : State, s.link = .up → s.proto = some .j1850 → s.l0Has .doesL2Frame = false →
     exec .recv s = .next { ended s .protocolNotSupported with retries := 0 })

/-! ### Receiving -/

/-- RECV on a RAW or ISO14230 link is one read and one message, stamped with NOW; an error is reported
unchanged and appends nothing (R202); a message that does not fit is NoMemory (R217). -/
def Obligations.RecvRawMessage : Prop :=
  (∀ (s : State) (rest : List Input), s.link = .up →
     s.proto = some .raw ∨ s.proto = some .iso14230 →
     (∀ d, 1 ≤ d.length → d.length ≤ 64 → s.msgq.length < 16 → s.inputs = got d ++ rest →
       exec .recv s = .next
         { ended s .ok with
           retries := 0
           msgq := s.msgq ++ [⟨d, 0x00, 0x00, 0, s.now⟩]
           arb := .idle
           history := s.history ++ [dataEvent 64 s.timeout.toNat d]
           inputs := rest }) ∧
     ∀ e, s.inputs = gotErr e ++ rest →
       exec .recv s = .next
         { ended s e.toCode with
           retries := 0
           arb := .idle
           history := s.history ++ [recvErr 64 s.timeout.toNat e]
           inputs := rest }) ∧
  (∀ (s : State) (d : List Byte) (rest : List Input), s.link = .up →
     s.proto = some .raw ∨ s.proto = some .iso14230 → 1 ≤ d.length → d.length ≤ 64 →
     16 ≤ s.msgq.length → s.inputs = got d ++ rest →
     exec .recv s = .next
       { ended s .noMemory with
         retries := 0
         arb := .idle
         history := s.history ++ [dataEvent 64 s.timeout.toNat d]
         inputs := rest })

/-- T_ib, and RECV of one ISO9141 frame that holds one message, read in any chunks: the reads with their
sizes and time-outs, T_3 among them, and the message, stripped, checked and stamped; a wrong checksum
byte is BadData, and so is a header other than 48 6B or a frame without a payload byte, whatever its
checksum; a message that does not fit MSGQ is NoMemory (R217); a frame that fills FRAME_CAP is BadLength.
An error of the L0 port is reported as it is: any at the first read, and any but a Timeout at a read that
accumulates a frame or waits for more, where the frames collected so far are discarded (R192 to R199). -/
def Obligations.RecvIso9141Message : Prop :=
  ∀ s : State,
    (s.tp1max.toNat + 2 ≤ s.tp2min.toNat → s.tIb = s.tp2min.toNat - 2) ∧
    (s.tp2min.toNat < s.tp1max.toNat + 2 → s.tIb = s.tp1max.toNat) ∧
    (s.link = .up → s.proto = some .iso9141 →
      (∀ (src : Byte) (payload : List Byte) (chunks : List (List Byte)) (rest : List Input),
        payload ≠ [] → (∀ c ∈ chunks, c ≠ []) → chunks.flatten = response9141 s src payload →
        (response9141 s src payload).length < 64 → NoSplit s (response9141 s src payload) →
        s.inputs = (chunks.map got).flatten ++ gotErr .timeout ++ gotErr .timeout ++ rest →
        exec .recv s = .next
          { ended s (if s.msgq.length < 16 then .ok else .noMemory) with
            retries := 0
            msgq := s.msgq ++
              (if s.msgq.length < 16 then [message9141 src payload s.now] else [])
            arb := .idle
            history := s.history ++ accumReads s.tIb .timeout s.timeout.toNat chunks ++
              [recvErr 64 (waitMore s) .timeout]
            inputs := rest }) ∧
      (∀ (f : List Byte) (c : Byte) (rest : List Input), s.l0Has .stripsL2Checksum = false →
        f.length < 63 → c ≠ checksum f → NoSplit s (f ++ [c]) →
        s.inputs = got (f ++ [c]) ++ gotErr .timeout ++ gotErr .timeout ++ rest →
        exec .recv s = .next
          { ended s .badData with
            retries := 0
            arb := .idle
            history := s.history ++ accumReads s.tIb .timeout s.timeout.toNat [f ++ [c]] ++
              [recvErr 64 (waitMore s) .timeout]
            inputs := rest }) ∧
      (∀ (f : List Byte) (rest : List Input), f ≠ [] → f.length < 64 → NoSplit s f →
        f.take 2 ≠ [0x48, 0x6B] ∨ f.length < 4 + trailer s →
        s.inputs = got f ++ gotErr .timeout ++ gotErr .timeout ++ rest →
        exec .recv s = .next
          { ended s .badData with
            retries := 0
            arb := .idle
            history := s.history ++ accumReads s.tIb .timeout s.timeout.toNat [f] ++
              [recvErr 64 (waitMore s) .timeout]
            inputs := rest }) ∧
      (∀ (chunks : List (List Byte)) (rest : List Input), (∀ c ∈ chunks, c ≠ []) →
        chunks.flatten.length = 64 → s.inputs = (chunks.map got).flatten ++ rest →
        exec .recv s = .next
          { ended s .badLength with
            retries := 0
            arb := .idle
            history := s.history ++ chunkReads s.tIb 0 s.timeout.toNat chunks
            inputs := rest }) ∧
      ∀ (chunks : List (List Byte)) (e : L0Err) (rest : List Input), (∀ c ∈ chunks, c ≠ []) →
        chunks.flatten.length < 64 →
        (chunks = [] ∨ e ≠ .timeout → s.inputs = (chunks.map got).flatten ++ gotErr e ++ rest →
          exec .recv s = .next
            { ended s e.toCode with
              retries := 0
              arb := .idle
              history := s.history ++ accumReads s.tIb e s.timeout.toNat chunks
              inputs := rest }) ∧
        (chunks ≠ [] → e ≠ .timeout →
          s.inputs = (chunks.map got).flatten ++ gotErr .timeout ++ gotErr e ++ rest →
          exec .recv s = .next
            { ended s e.toCode with
              retries := 0
              arb := .idle
              history := s.history ++ accumReads s.tIb .timeout s.timeout.toNat chunks ++
                [recvErr 64 (waitMore s) e]
              inputs := rest }))

/-- RECV of two ISO9141 messages: in one frame, which is split, each piece checked, both messages in order
with the frame's timestamp; or in two frames, the second begun in the wait for more and stamped with NOW
at its own first read, n ticks after the first. A bad second frame discards the good first one, and so
does an error other than a Timeout while the second accumulates (R196 to R199, R218). -/
def Obligations.RecvIso9141Split : Prop :=
  ∀ (s : State) (src₁ src₂ : Byte) (pl₁ pl₂ f₁ f₂ : List Byte) (rest : List Input), s.link = .up →
    s.proto = some .iso9141 → pl₁ ≠ [] → f₁ = response9141 s src₁ pl₁ →
    (pl₂ ≠ [] → f₂ = response9141 s src₂ pl₂ → (f₁ ++ f₂).length < 64 →
      frameLen9141 s (f₁ ++ f₂) = some f₁.length → NoSplit s f₂ → s.msgq.length < 15 →
      s.inputs = got (f₁ ++ f₂) ++ gotErr .timeout ++ gotErr .timeout ++ rest →
      exec .recv s = .next
        { ended s .ok with
          retries := 0
          msgq := s.msgq ++ [message9141 src₁ pl₁ s.now, message9141 src₂ pl₂ s.now]
          arb := .idle
          history := s.history ++ accumReads s.tIb .timeout s.timeout.toNat [f₁ ++ f₂] ++
            [recvErr 64 (waitMore s) .timeout]
          inputs := rest }) ∧
    ∀ n, f₁.length < 64 → f₂ ≠ [] → f₂.length < 64 → NoSplit s f₁ → NoSplit s f₂ →
      let begun := got f₁ ++ gotErr .timeout ++ List.replicate n .tick ++ got f₂
      let u := { ended s .badData with
        retries := 0
        arb := .idle
        now := s.now + BitVec.ofNat 32 n
        history := s.history ++ accumReads s.tIb .timeout s.timeout.toNat [f₁] ++
          accumReads s.tIb .timeout (waitMore s) [f₂] ++ [recvErr 64 (waitMore s) .timeout]
        inputs := rest }
      (s.inputs = begun ++ gotErr .timeout ++ gotErr .timeout ++ rest →
        (pl₂ ≠ [] → f₂ = response9141 s src₂ pl₂ → s.msgq.length < 15 →
          exec .recv s = .next
            { u with
              err := .ok
              msgq := s.msgq ++ [message9141 src₁ pl₁ s.now, message9141 src₂ pl₂ u.now] }) ∧
        (f₂.take 2 ≠ [0x48, 0x6B] ∨ f₂.length < 4 + trailer s → exec .recv s = .next u)) ∧
      ∀ e, e ≠ .timeout → s.inputs = begun ++ gotErr e ++ rest →
        exec .recv s = .next
          { u with
            err := e.toCode
            history := s.history ++ accumReads s.tIb .timeout s.timeout.toNat [f₁] ++
              accumReads s.tIb e (waitMore s) [f₂] }

/-- RECV of J1850 frames until a read times out: every frame checked and stripped, the messages in order,
the first read with TIMEOUT and the others with TP3MIN. One frame that is too short for a payload byte,
or that carries a wrong CRC where the L0 device does not strip it, makes the whole receive BadData, with
nothing appended; messages that do not all fit MSGQ are NoMemory, with none appended (R217). A Timeout
with no frame, and an IOError after any number of frames, is reported as it is, with nothing appended
(R209, R210). -/
def Obligations.RecvJ1850Frames : Prop :=
  (∀ (s : State) (fs : List Frame1850) (rest : List Input), s.link = .up →
    s.proto = some .j1850 → s.l0Has .doesL2Frame = true →
    fs ≠ [] → (∀ f ∈ fs, f.payload ≠ [] ∧ (f.bytes s).length ≤ 64) →
    s.inputs = (fs.map fun f => got (f.bytes s)).flatten ++ gotErr .timeout ++ rest →
    exec .recv s = .next
      { ended s (if s.msgq.length + fs.length ≤ 16 then .ok else .noMemory) with
        retries := 0
        msgq := s.msgq ++
          (if s.msgq.length + fs.length ≤ 16 then fs.map fun f => f.message s.now else [])
        arb := .idle
        history := s.history ++
          reads1850 s.tp3min.toNat s.timeout.toNat (fs.map (Frame1850.bytes s)) ++
          [recvErr 64 s.tp3min.toNat .timeout]
        inputs := rest }) ∧
  (∀ (s : State) (ds : List (List Byte)) (bad : List Byte) (rest : List Input), s.link = .up →
    s.proto = some .j1850 → s.l0Has .doesL2Frame = true → FullReads ds → bad ∈ ds →
    bad.length < 4 + trailer s ∨
      (s.l0flags.getLsbD 2 = false ∧ bad.getLast? ≠ some (crc8 bad.dropLast)) →
    s.inputs = (ds.map got).flatten ++ gotErr .timeout ++ rest →
    exec .recv s = .next
      { ended s .badData with
        retries := 0
        arb := .idle
        history := s.history ++ reads1850 s.tp3min.toNat s.timeout.toNat ds ++
          [recvErr 64 s.tp3min.toNat .timeout]
        inputs := rest }) ∧
  ∀ (s : State) (ds : List (List Byte)) (e : L0Err) (rest : List Input), s.link = .up →
    s.proto = some .j1850 → s.l0Has .doesL2Frame = true → FullReads ds →
    e = .ioError ∨ (e = .timeout ∧ ds = []) → s.inputs = (ds.map got).flatten ++ gotErr e ++ rest →
    exec .recv s = .next
      { ended s e.toCode with
        retries := 0
        arb := .idle
        history := s.history ++ reads1850 s.tp3min.toNat s.timeout.toNat ds ++
          [last1850 s.tp3min.toNat s.timeout.toNat ds e]
        inputs := rest }

/-- Bus contention. Each contention answer discards the frames read before it, resends LASTTX and restarts
reading with TIMEOUT, up to 30 times: k contentions followed by good frames end with OK, the messages of
those frames alone and RETRIES k; a Timeout or an IOError after them is reported as it is, and so is an
error of a resend, which RETRIES counts. The 31st contention is BusError with RETRIES 30 and 30 resends;
with nothing sent since START the first is, with none (R209, R212 to R214). -/
def Obligations.BusContentionBound : Prop :=
  ∀ (s : State) (ds : List (List Byte)) (rest : List Input), s.link = .up → s.proto = some .j1850 →
    s.l0Has .doesL2Frame = true → FullReads ds →
    (∀ (f : List Byte) (rounds : List (List (List Byte))), s.lasttx = some f →
      rounds.length ≤ 30 → (∀ r ∈ rounds, FullReads r) →
      let u := { s with
        retries := BitVec.ofNat 8 rounds.length
        arb := .idle
        inputs := rest }
      let sofar := s.history ++ resendEvents s f rounds
      (∀ fs : List Frame1850, fs ≠ [] → (∀ g ∈ fs, g.payload ≠ [] ∧ (g.bytes s).length ≤ 64) →
        s.msgq.length + fs.length ≤ 16 →
        s.inputs = resendScript rounds ++ (fs.map fun g => got (g.bytes s)).flatten ++
          gotErr .timeout ++ rest →
        exec .recv s = .next
          { ended u .ok with
            msgq := s.msgq ++ fs.map fun g => g.message s.now
            history := sofar ++
              reads1850 s.tp3min.toNat s.timeout.toNat (fs.map (Frame1850.bytes s)) ++
              [recvErr 64 s.tp3min.toNat .timeout] }) ∧
      (∀ e, e = .ioError ∨ (e = .timeout ∧ ds = []) →
        s.inputs = resendScript rounds ++ (ds.map got).flatten ++ gotErr e ++ rest →
        exec .recv s = .next
          { ended u e.toCode with
            history := sofar ++ reads1850 s.tp3min.toNat s.timeout.toNat ds ++
              [last1850 s.tp3min.toNat s.timeout.toNat ds e] }) ∧
      (∀ e, rounds.length < 30 → e ≠ .timeout →
        s.inputs = resendScript rounds ++ (ds.map got).flatten ++ gotErr .busError ++ gotErr e ++
          rest →
        exec .recv s = .next
          { ended u e.toCode with
            retries := BitVec.ofNat 8 (rounds.length + 1)
            history := sofar ++ lost1850 s ds ++ [errEvent (.send f) e] }) ∧
      (rounds.length = 30 →
        s.inputs = resendScript rounds ++ (ds.map got).flatten ++ gotErr .busError ++ rest →
        exec .recv s = .next
          { ended u .busError with
            retries := 30
            history := sofar ++ lost1850 s ds })) ∧
    (s.lasttx = none → s.inputs = (ds.map got).flatten ++ gotErr .busError ++ rest →
      exec .recv s = .next
        { ended s .busError with
          retries := 0
          arb := .idle
          history := s.history ++ lost1850 s ds
          inputs := rest })

/-- A RECV or REQUEST that ends with an error leaves MSGQ as it was; one that ends with OK has only
appended, and no more than fits (R81, R190, R217). -/
def Obligations.ReceiveAppendsAllOrNothing : Prop :=
  ∀ (i : Instr) (s t : State), i = .recv ∨ i = .request → exec i s = .next t → t.estate = .idle →
    (t.err ≠ .ok → t.msgq = s.msgq) ∧
    (t.err = .ok → ∃ ms, t.msgq = s.msgq ++ ms ∧ t.msgq.length ≤ 16)

/-- REQUEST on a link of any protocol sends the frame as SEND does and then does what a RECV from there
does, wherever that ends; an error at any operation of the send is reported as it is, and no receive
follows it; a payload that the framer refuses is BadLength (R215). On a J1850 link whose L0 device does no
framing the receive is not supported, and REQUEST reports that before it sends anything (R208, R294, log
entry 20). The last clause of the first part is one whole exchange on a RAW link. -/
def Obligations.RequestSendsThenReceives : Prop :=
  (∀ (s : State) (bs frame : List Byte) (rest : List Input), s.link = .up → TxHolds s bs →
    frameFor s bs = .ok frame →
    (¬NoFraming s →
      (∀ n t, s.tp4min.toNat ≤ n → n < 2 ^ 32 → s.inputs = emitScript s n frame ++ rest →
        exec .recv (afterFrame s n frame rest) = .next t → t.estate = .idle →
        exec .request s = .next t) ∧
      (∀ n k e, s.tp4min.toNat ≤ n → n < 2 ^ 32 → k < emitCount s frame → e ≠ .timeout →
        s.inputs = failScript n k e ++ rest →
        exec .request s = .next { afterFailure s n k frame e rest with retries := 0 })) ∧
    (NoFraming s → exec .request s = .next { ended s .protocolNotSupported with retries := 0 }) ∧
    ∀ d, s.proto = some .raw → 1 ≤ d.length → d.length ≤ 64 → s.msgq.length < 16 →
      s.inputs = acked ++ got d ++ rest →
      exec .request s = .next
        { ended s .ok with
          retries := 0
          lasttx := some bs
          msgq := s.msgq ++ [⟨d, 0x00, 0x00, 0, s.now⟩]
          arb := .idle
          history := s.history ++ [okEvent (.send bs), dataEvent 64 s.timeout.toNat d]
          inputs := rest }) ∧
  ∀ (s : State) (bs : List Byte), s.link = .up → TxHolds s bs → FramerRefuses s bs →
    exec .request s = .next { ended s .badLength with retries := 0 }

/-- R216: MSG_POP removes the head, and on an empty queue does nothing and reports OK. -/
def Obligations.MsgPopRemovesHead : Prop :=
  ∀ s : State,
    (∀ m q, s.msgq = m :: q → exec .msgPop s = .next { ended s .ok with msgq := q }) ∧
    (s.msgq = [] → exec .msgPop s = .next (ended s .ok))

/-! ### The L3 session -/

/-- L3_START on a link that is UP and L3_STOP of a session, with all they write (R240, R241). -/
def Obligations.SessionStartAndStop : Prop :=
  ∀ s : State,
    (s.l3active = false → s.link = .up → exec .l3Start s = .next
      { ended s .ok with l3active := true, l3buf := [], l3idle := s.now }) ∧
    (s.l3active = true → exec .l3Stop s = .next { ended s .ok with l3active := false, l3buf := [] })

/-- L3_SEND sends as SEND does, byte by byte where SEND does, and resets the idle time, on success only;
an error at any operation of the send is reported as it is; a payload that the framer refuses is BadLength
(R242). -/
def Obligations.SessionSend : Prop :=
  (∀ (s : State) (bs : List Byte), s.l3active = true → TxHolds s bs → FramerRefuses s bs →
    exec .l3Send s = .next (ended s .badLength)) ∧
  ∀ (s : State) (bs frame : List Byte) (rest : List Input), s.l3active = true →
    TxHolds s bs → frameFor s bs = .ok frame →
    (∀ n, s.tp4min.toNat ≤ n → n < 2 ^ 32 → s.inputs = emitScript s n frame ++ rest →
      exec .l3Send s = .next
        { ended (afterFrame s n frame rest) .ok with l3idle := (afterFrame s n frame rest).now }) ∧
    ∀ n k e, s.tp4min.toNat ≤ n → n < 2 ^ 32 → k < emitCount s frame → e ≠ .timeout →
      s.inputs = failScript n k e ++ rest →
      exec .l3Send s = .next (afterFailure s n k frame e rest)

/-- The length inference: incomplete below 4 bytes, REQLEN for the request modes, the PID byte needed for
four response modes, BadData outside both ranges, and no byte but b[3] and b[4] read (R243, R244,
R246); every parameter table leaves the three fixed points of RESPLEN, and gives no other answer than a
length from 5 to 64 or BadData (R245). -/
def Obligations.LengthInference : Prop :=
  (∀ (p : Params) (b : List Byte),
     (b.length < 4 → expectedLength p b = .incomplete) ∧
     (∀ mode, b[3]? = some mode →
       (∀ k n, (k, n) ∈ [(1, 6), (2, 7), (3, 5), (4, 5), (5, 6), (6, 6), (7, 5), (8, 11), (9, 6)] →
         mode.toNat = k → expectedLength p b = .ok n) ∧
       (mode.toNat = 0 ∨ 0x0A ≤ mode.toNat ∧ mode.toNat ≤ 0x40 ∨ 0x4A ≤ mode.toNat →
         expectedLength p b = .bad) ∧
       (mode ∈ [(0x41 : Byte), 0x42, 0x45, 0x49] → b.length = 4 → expectedLength p b = .incomplete) ∧
       (mode ∈ [(0x41 : Byte), 0x42, 0x45, 0x49] → ∀ pid, b[4]? = some pid →
         expectedLength p b = respLen p mode (some pid)) ∧
       (mode ∈ [(0x43 : Byte), 0x44, 0x46, 0x47, 0x48] →
         expectedLength p b = respLen p mode none)) ∧
     ∀ d : List Byte, b[3]? = d[3]? → b[4]? = d[4]? → expectedLength p b = expectedLength p d) ∧
  (∀ p : Params,
     respLen p 0x41 (some 0x00) = .ok 10 ∧ respLen p 0x42 (some 0x02) = .ok 8 ∧
     respLen p 0x41 (some 0x02) = .bad ∧
     ∀ mode pid, respLen p mode pid = .bad ∨
       ∃ n, respLen p mode pid = .ok n ∧ 5 ≤ n ∧ n ≤ 64)

/-- R258: a stream of well-formed J1979 messages gives the same messages, but for the timestamps, however
it is split into reads, and leaves no byte behind. -/
def Obligations.ReassemblyIdempotence : Prop :=
  ∀ (p : Params) (room : Nat) (ms : List (List Byte)) (reads : List (Word × List Byte)),
    (∀ m ∈ ms, expectedLength p m = .ok m.length) → ms.length ≤ room →
    (reads.map Prod.snd).flatten = ms.flatten →
    (feed p room reads []).1.map content =
      ms.map (fun m => (m, m.getD 2 0, m.getD 1 0, 0x1)) ∧
    (feed p room reads []).2 = []

/-- L3_RECV on the byte path. Whole messages in L3BUF and the poll: as many as MSGQ has room for are
appended, in order, and the rest stays in L3BUF, without a further read; a full L3BUF is not read at all;
and the same where the read of L3_NORMAL completes the first of them (R247, R253, R254, R257). A message
that is completed in L3_DRAIN, and those that arrive there after it, each in any chunks, are delivered
when a read of DRAIN_MS = 5 times out, with OK, or when it answers another error, with that error; the
bytes of a message still to be completed stay in L3BUF (R252, R254, R255). -/
def Obligations.SessionRecvMessage : Prop :=
  ∀ (s : State) (a b : List Byte) (rest : List Input), BytePath s →
    let u := { s with retries := 0, arb := .idle, inputs := rest }
    (∀ (ms : List (List Byte)) (tail : List Byte), ms ≠ [] →
      (∀ x ∈ ms, expectedLength s.params x = .ok x.length) →
      Partial s.params tail ∨ roomLeft s ≤ ms.length →
      let sliced := (ms.take (roomLeft s)).map (messageL3 s.now)
      let kept := (ms.drop (roomLeft s)).flatten ++ tail
      (s.l3buf ++ a = ms.flatten ++ tail → (s.l3buf ++ a).length ≤ 64 → s.l3buf.length < 64 →
        s.inputs = polled a ++ rest →
        exec .l3Recv s = .next
          { ended u .ok with
            l3idle := if a = [] then s.l3idle else s.now
            l3buf := kept
            msgq := s.msgq ++ sliced
            history := s.history ++ [pollEvent s a] }) ∧
      (s.l3buf = ms.flatten ++ tail → s.l3buf.length = 64 →
        exec .l3Recv s = .next
          { ended s .ok with
            retries := 0
            l3buf := kept
            msgq := s.msgq ++ sliced }) ∧
      (b ≠ [] → Partial s.params (s.l3buf ++ a) → s.l3buf ++ a ++ b = ms.flatten ++ tail →
        (s.l3buf ++ a ++ b).length ≤ 64 → s.inputs = polled a ++ got b ++ rest →
        exec .l3Recv s = .next
          { ended u .ok with
            l3idle := s.now
            l3buf := kept
            msgq := s.msgq ++ sliced
            history := s.history ++ byteReads s a b [] })) ∧
    ∀ (m : List Byte) (cs tail : List (List Byte)) (more : List (List (List Byte))) (e : L0Err),
      m.length ≤ 64 → expectedLength s.params m = .ok m.length → b ≠ [] → cs ≠ [] →
      s.l3buf ++ a ++ b ++ cs.flatten = m → (∀ c ∈ cs ++ more.flatten ++ tail, c ≠ []) →
      (∀ x ∈ more, x.flatten.length ≤ 64 ∧
        expectedLength s.params x.flatten = .ok x.flatten.length) →
      more.length < roomLeft s → Partial s.params tail.flatten →
      s.inputs = byteScript a b cs ++ ((more.flatten ++ tail).map got).flatten ++ gotErr e ++ rest →
      exec .l3Recv s = .next
        { ended u (if e = .timeout then .ok else e.toCode) with
          l3idle := s.now
          l3buf := tail.flatten
          msgq := s.msgq ++ (m :: more.map List.flatten).map (messageL3 s.now)
          history := s.history ++ byteReads s a b cs ++ (more.map (chunkReads 5 0 5)).flatten ++
            chunkReads 5 0 5 tail ++ [recvErr (64 - tail.flatten.length) 5 e] }

/-- L3_RECV of bytes that no message can begin, behind as many whole messages as leave a free place: the
messages and the zero-length message are delivered with BadData, and the bytes are kept or the first
dropped, as the policy says (R247, R248, R255). The same after a read in L3_NORMAL or in L3_DRAIN, where
it ends the command at once (R252). -/
def Obligations.SessionRecvBadData : Prop :=
  ∀ (s : State) (a : List Byte) (rest : List Input), BytePath s →
    let left := fun d : List Byte => match s.params.badData with | .keep => d | .discardByte => d.tail
    let u := { ended s .badData with retries := 0, arb := .idle, inputs := rest }
    ∀ (ms : List (List Byte)) (d : List Byte), (∀ x ∈ ms, expectedLength s.params x = .ok x.length) →
      ms.length < roomLeft s → expectedLength s.params d = .bad →
      let delivered := s.msgq ++ ms.map (messageL3 s.now) ++ [⟨[], 0, 0, 0, s.now⟩]
      (s.l3buf ++ a = ms.flatten ++ d → (s.l3buf ++ a).length ≤ 64 → s.l3buf.length < 64 →
        s.inputs = polled a ++ rest →
        exec .l3Recv s = .next
          { u with
            l3idle := if a = [] then s.l3idle else s.now
            l3buf := left d
            msgq := delivered
            history := s.history ++ [pollEvent s a] }) ∧
      ∀ (b : List Byte) (cs : List (List Byte)), (∀ c ∈ b :: cs, c ≠ []) →
        Partial s.params (s.l3buf ++ a ++ (b :: cs).dropLast.flatten) →
        s.l3buf ++ a ++ (b :: cs).flatten = ms.flatten ++ d →
        (s.l3buf ++ a ++ (b :: cs).flatten).length ≤ 64 → s.inputs = byteScript a b cs ++ rest →
        exec .l3Recv s = .next
          { u with
            l3idle := s.now
            l3buf := left d
            msgq := delivered
            history := s.history ++ byteReads s a b cs }

/-- L3_RECV that ends with no message. With MSGQ full it is NoMemory without an L0 operation (R250). An
error other than a Timeout at the poll ends it at once. Where the bytes so far are no message yet, any
error at the read of L3_NORMAL or of L3_DRAIN, a Timeout among them, ends it with that error. The bytes
stay in L3BUF, and MSGQ is as it was (R252 to R255). -/
def Obligations.SessionRecvNothing : Prop :=
  (∀ s : State, s.l3active = true → 16 ≤ s.msgq.length →
    exec .l3Recv s = .next (ended s .noMemory)) ∧
  ∀ (s : State) (a : List Byte) (e : L0Err) (rest : List Input), BytePath s →
    let u := { ended s e.toCode with retries := 0, arb := .idle, inputs := rest }
    (s.l3buf.length < 64 → e ≠ .timeout → s.inputs = gotErr e ++ rest →
      exec .l3Recv s = .next
        { u with history := s.history ++ [recvErr (64 - s.l3buf.length) 0 e] }) ∧
    (Partial s.params (s.l3buf ++ a) → s.inputs = polled a ++ gotErr e ++ rest →
      exec .l3Recv s = .next
        { u with
          l3idle := if a = [] then s.l3idle else s.now
          l3buf := s.l3buf ++ a
          history := s.history ++
            [pollEvent s a, recvErr (64 - (s.l3buf ++ a).length) s.timeout.toNat e] }) ∧
    ∀ (b : List Byte) (cs : List (List Byte)), (∀ c ∈ b :: cs, c ≠ []) →
      Partial s.params (s.l3buf ++ a ++ (b :: cs).flatten) →
      s.inputs = byteScript a b cs ++ gotErr e ++ rest →
      exec .l3Recv s = .next
        { u with
          l3idle := s.now
          l3buf := s.l3buf ++ a ++ (b :: cs).flatten
          history := s.history ++ byteReads s a b cs ++
            [recvErr (64 - (s.l3buf ++ a ++ (b :: cs).flatten).length) 5 e] }

/-- L3_RECV on a link whose merged flags say framed does what RECV does, wherever that ends, and resets
the idle time on success; L3BUF is not used (R251). -/
def Obligations.SessionRecvFramed : Prop :=
  ∀ s t : State, s.l3active = true → s.link = .up → s.has .doesL2Frame = true →
    s.msgq.length < 16 → exec .recv s = .next t → t.estate = .idle →
    exec .l3Recv s = .next (if t.err = .ok then { t with l3idle := t.now } else t) ∧
      t.l3buf = s.l3buf

/-- L3_KEEPALIVE: nothing to do while L2 keeps the link alive or the link has been idle for at most 3500
ms; otherwise the payload `01 00` is framed and sent, the idle time is reset, and the answer is read and
discarded: on the framed path as RECV reads it, on the byte path as L3_RECV does. An error at any
operation of the send is reported as it is and leaves the idle time; on VAG nothing is sent (R259, R260,
R261). On a framed J1850 link whose L0 device does no framing the answer is not supported, and nothing is
sent (R208, R294, log entry 20). That RETRIES keeps its value on the byte path is log entry 15. -/
def Obligations.KeepaliveCommand : Prop :=
  ∀ s : State, s.l3active = true →
    (s.has .keepalive = true → exec .l3Keepalive s = .next (ended s .ok)) ∧
    (s.has .keepalive = false → (s.now - s.l3idle).toNat ≤ 3500 →
      exec .l3Keepalive s = .next (ended s .ok)) ∧
    (s.has .keepalive = false → 3500 < (s.now - s.l3idle).toNat → s.proto = some .vag →
      exec .l3Keepalive s = .next (ended s .protocolNotSupported)) ∧
    (s.has .keepalive = false → 3500 < (s.now - s.l3idle).toNat → FramerRefuses s [0x01, 0x00] →
      exec .l3Keepalive s = .next (ended s .badLength)) ∧
    ∀ frame : List Byte, s.has .keepalive = false →
      3500 < (s.now - s.l3idle).toNat → frameFor s [0x01, 0x00] = .ok frame →
      (s.has .doesL2Frame = true → NoFraming s →
        exec .l3Keepalive s = .next (ended s .protocolNotSupported)) ∧
      (¬(s.has .doesL2Frame = true ∧ NoFraming s) →
        (∀ n k e rest, s.tp4min.toNat ≤ n → n < 2 ^ 32 → k < emitCount s frame → e ≠ .timeout →
          s.inputs = failScript n k e ++ rest →
          exec .l3Keepalive s = .next (afterFailure s n k frame e rest)) ∧
        ∀ (n : Nat) (u : State) (rest : List Input), s.tp4min.toNat ≤ n → n < 2 ^ 32 →
          s.inputs = emitScript s n frame ++ rest →
          u = { afterFrame s n frame rest with l3idle := (afterFrame s n frame rest).now } →
          (s.has .doesL2Frame = true → s.link = .up →
            ∀ t, exec .recv { u with msgq := [] } = .next t → t.estate = .idle →
              t.err ≠ .noMemory → exec .l3Keepalive s = .next { t with msgq := s.msgq }) ∧
          (s.has .doesL2Frame = false →
            (∀ m more, s.l3buf = [] → m.length ≤ 64 → expectedLength s.params m = .ok m.length →
              rest = got m ++ more →
              exec .l3Keepalive s = .next
                { ended u .ok with
                  history := u.history ++ [dataEvent 64 0 m]
                  inputs := more }) ∧
            ∀ t, exec .l3Recv { u with msgq := [] } = .next t → t.estate = .idle →
              exec .l3Keepalive s = .next { t with msgq := s.msgq, retries := s.retries }))

/-! ### The whole machine -/

/-- The invariant holds right after reset. -/
def Obligations.InvariantAtReset : Prop := BlockInv State.reset

/-- Every step from a state that meets the invariant leads to one that meets it: BUSY and ARB agree with
the engine state, a session needs a link that is UP, the queue and the buffers stay in bounds, FLAGS is
the merged set of the connection, IncompleteData is never reported (R39, R43, R47, R48, R180, R256,
R290). -/
def Obligations.StepKeepsInvariant : Prop :=
  ∀ s t : State, BlockInv s → step s = .next t → BlockInv t

/-- Every L0 operation that a step from a state that meets the invariant adds to the event history meets
its contract, and so does its answer; nothing already recorded changes (R58, R59, R60, R84). -/
def Obligations.WireTrafficMeetsContracts : Prop :=
  ∀ s t : State, BlockInv s → step s = .next t →
    ∃ new, t.history = s.history ++ new ∧
      ∀ e ∈ new, OpOk e.op ∧ ∀ a, e.answer = some a → AnswerOk e.op a

/-- Each command reports only the codes that rule R292 gives it, and Timeout for the fast-init
transaction of SEND (log entry 13). -/
def Obligations.ErrorsPerCommand : Prop :=
  ∀ (i : Instr) (s t : State), exec i s = .next t → t.estate = .idle → t.err ∈ mayReport i

/-- What no command writes, and which commands alone write the rest (R53): the host's registers, TXBUF,
the parameters and the fault state never; the accumulators, VERIFY, the connection's registers, the link,
the queue and the session only by the commands whose rules name them. -/
def Obligations.FrameOfEveryCommand : Prop :=
  ∀ (i : Instr) (s t : State), exec i s = .next t →
    (t.config = s.config ∧ t.addr = s.addr ∧ t.speed = s.speed ∧ t.timeout = s.timeout ∧
      t.txlen = s.txlen ∧ (∀ a, t.txbuf.read a = s.txbuf.read a) ∧ t.params = s.params ∧
      t.readData = s.readData ∧ t.freeReads = s.freeReads ∧ t.resets = s.resets ∧
      t.modelFault = s.modelFault) ∧
    (i.mnemonic ∈ ["CKS_INIT", "CKS_ADD", "CKS_BUF"] ∨ t.cksum = s.cksum) ∧
    (i.mnemonic ∈ ["CRC_INIT", "CRC_ADD", "CRC_BUF"] ∨ t.crcreg = s.crcreg) ∧
    (i.mnemonic ∈ ["CKS_CHECK", "CRC_CHECK"] ∨ t.verify = s.verify) ∧
    (i = .start ∨ t.keybytes = s.keybytes ∧ t.l0flags = s.l0flags ∧ t.flags = s.flags ∧
      t.tp1max = s.tp1max ∧ t.tp2min = s.tp2min ∧ t.tp3min = s.tp3min ∧ t.tp4min = s.tp4min) ∧
    (i ∈ [Instr.start, .stop, .send] ∨ t.link = s.link ∧ t.fastbuf = s.fastbuf) ∧
    (i ∈ [Instr.start, .stop, .send, .request, .l3Send, .l3Keepalive] ∨ t.lasttx = s.lasttx) ∧
    (i ∈ [Instr.recv, .request, .msgPop, .l3Recv] ∨ t.msgq = s.msgq) ∧
    (i ∈ [Instr.recv, .request, .l3Recv, .l3Keepalive] ∨ t.retries = s.retries) ∧
    (i ∈ [Instr.l3Start, .l3Stop] ∨ t.l3active = s.l3active) ∧
    (i ∈ [Instr.l3Start, .l3Stop, .l3Recv, .l3Keepalive] ∨ t.l3buf = s.l3buf) ∧
    (i ∈ [Instr.l3Start, .l3Send, .l3Recv, .l3Keepalive] ∨ t.l3idle = s.l3idle) ∧
    (i.mnemonic ∈ localCommands → t.history = s.history ∧ t.arb = s.arb ∧ t.now = s.now ∧
      t.inputs = s.inputs)
end

