-- ==== Sys2Proof/Laws/Memory.lean ====
section
/-! SUPPORT. The laws of byte storage: read after write, and that a write keeps the canonical form. -/

namespace Sys2Proof.Machine

@[simp] theorem read_nil (i : Nat) : Memory.read [] i = none := rfl

theorem read_write_same (m : Memory) (i : Nat) (v : Byte) : (m.write i v).read i = some v := by
  induction m with
  | nil => simp [Memory.write, Memory.read]
  | cons c m ih =>
    obtain ⟨a, b⟩ := c
    simp only [Memory.write]
    split
    · simp [Memory.read]
    · split
      · simp [Memory.read, *]
      · rename_i h₁ h₂
        simp [Memory.read, ih, Ne.symm h₂]

theorem read_write_other (m : Memory) (i j : Nat) (v : Byte) (h : j ≠ i) :
    (m.write i v).read j = m.read j := by
  induction m with
  | nil => simp [Memory.write, Memory.read, Ne.symm h]
  | cons c m ih =>
    obtain ⟨a, b⟩ := c
    simp only [Memory.write]
    split
    · simp [Memory.read, Ne.symm h]
    · split
      · rename_i h₁ h₂
        subst h₂
        simp [Memory.read, Ne.symm h]
      · simp only [Memory.read, ih]

/-- The addresses of a storage that is ordered above `lo`. -/
def Memory.above (lo bound : Nat) : Memory → Prop
  | [] => True
  | (a, _) :: m => lo < a ∧ a < bound ∧ Memory.above a bound m

theorem ordered_cons_iff (bound a : Nat) (b : Byte) (m : Memory) :
    Memory.ordered bound ((a, b) :: m) = true ↔ a < bound ∧ Memory.above a bound m := by
  induction m generalizing a b with
  | nil => simp [Memory.ordered, Memory.above]
  | cons c m ih =>
    obtain ⟨a', b'⟩ := c
    simp only [Memory.ordered, Memory.above, Bool.and_eq_true, decide_eq_true_eq, ih]
    constructor
    · rintro ⟨h₁, h₂, h₃⟩
      exact ⟨by omega, h₁, h₂, h₃⟩
    · rintro ⟨_, h₁, h₂, h₃⟩
      exact ⟨h₁, h₂, h₃⟩

theorem above_write {lo bound i : Nat} (v : Byte) {m : Memory} (hm : m.above lo bound) (hlo : lo < i)
    (hi : i < bound) : (m.write i v).above lo bound := by
  induction m generalizing lo with
  | nil => exact ⟨hlo, hi, trivial⟩
  | cons c m ih =>
    obtain ⟨a, b⟩ := c
    obtain ⟨h₁, h₂, h₃⟩ := hm
    simp only [Memory.write]
    split
    · rename_i h
      exact ⟨hlo, hi, h, h₂, h₃⟩
    · split
      · exact ⟨h₁, h₂, h₃⟩
      · rename_i h₄ h₅
        exact ⟨h₁, h₂, ih h₃ (by omega)⟩

/-- Every write below TXCAP keeps TXBUF's canonical form. -/
theorem write_wf {m : Memory} (hm : m.wf = true) {i : Nat} (hi : i < Config.txCap) (v : Byte) :
    (m.write i v).wf = true := by
  cases m with
  | nil => simpa [Memory.wf, Memory.write, Memory.ordered] using hi
  | cons c m =>
    obtain ⟨a, b⟩ := c
    rw [Memory.wf, ordered_cons_iff] at hm
    obtain ⟨h₁, h₂⟩ := hm
    simp only [Memory.wf, Memory.write]
    split
    · rename_i h
      rw [ordered_cons_iff]
      exact ⟨hi, h, h₁, h₂⟩
    · split
      · rw [ordered_cons_iff]
        exact ⟨h₁, h₂⟩
      · rw [ordered_cons_iff]
        exact ⟨h₁, above_write v h₂ (by omega) hi⟩

theorem reset_txbuf_wf : State.reset.txbuf.wf = true := rfl

/-- The index of TXBUF that an offset of the window names is below TXCAP. -/
theorem regAt_txbuf_lt {off i : Nat} (h : regAt off = .txbuf i) : i < Config.txCap := by
  unfold regAt at h
  split at h <;> try contradiction
  split at h
  · cases h
    simp only [Config.txCap]
    omega
  · split at h
    · contradiction
    · split at h <;> contradiction

/-- Reading TXBUF[0..n): the bytes at indices i to i + n - 1, all of them written. -/
theorem readRange_eq_some {m : Memory} {i n : Nat} {bs : List Byte} :
    m.readRange i n = some bs ↔
      bs.length = n ∧ ∀ j (h : j < bs.length), m.read (i + j) = some bs[j] := by
  induction n generalizing i bs with
  | zero =>
    simp only [Memory.readRange, Option.some.injEq]
    constructor
    · rintro rfl
      simp
    · rintro ⟨h, -⟩
      exact (List.eq_nil_of_length_eq_zero h).symm
  | succ n ih =>
    simp only [Memory.readRange]
    constructor
    · intro h
      split at h
      · rename_i b cs hb hcs
        cases h
        obtain ⟨h₁, h₂⟩ := ih.mp hcs
        refine ⟨by simp [h₁], fun j hj => ?_⟩
        cases j with
        | zero => simpa using hb
        | succ j =>
          have := h₂ j (by simpa using hj)
          simpa [Nat.add_assoc, Nat.add_comm 1 j] using this
      · contradiction
    · rintro ⟨h₁, h₂⟩
      cases bs with
      | nil => simp at h₁
      | cons b cs =>
        have hb : m.read i = some b := h₂ 0 (Nat.succ_pos _)
        have hcs : m.readRange (i + 1) n = some cs := by
          refine ih.mpr ⟨by simpa using h₁, fun j hj => ?_⟩
          have := h₂ (j + 1) (by simpa using hj)
          simpa [Nat.add_assoc, Nat.add_comm 1 j] using this
        simp [hb, hcs]

end Sys2Proof.Machine
end

