-- ==== Sys2Proof/Laws/State.lean ====
section
/-! SUPPORT. One lemma per field for each shared update of the state: what the update leaves in the field.
All hold by rfl, so that a proof about a command need not unfold a record update. -/

namespace Sys2Proof.Machine

/-! ### complete -/

@[simp] theorem complete_busy (s : State) (e : ErrCode) : (s.complete e).busy = false := rfl
@[simp] theorem complete_verify (s : State) (e : ErrCode) : (s.complete e).verify = s.verify := rfl
@[simp] theorem complete_link (s : State) (e : ErrCode) : (s.complete e).link = s.link := rfl
@[simp] theorem complete_err (s : State) (e : ErrCode) : (s.complete e).err = e := rfl
@[simp] theorem complete_config (s : State) (e : ErrCode) : (s.complete e).config = s.config := rfl
@[simp] theorem complete_addr (s : State) (e : ErrCode) : (s.complete e).addr = s.addr := rfl
@[simp] theorem complete_speed (s : State) (e : ErrCode) : (s.complete e).speed = s.speed := rfl
@[simp] theorem complete_timeout (s : State) (e : ErrCode) :
    (s.complete e).timeout = s.timeout := rfl
@[simp] theorem complete_l0flags (s : State) (e : ErrCode) :
    (s.complete e).l0flags = s.l0flags := rfl
@[simp] theorem complete_flags (s : State) (e : ErrCode) : (s.complete e).flags = s.flags := rfl
@[simp] theorem complete_keybytes (s : State) (e : ErrCode) :
    (s.complete e).keybytes = s.keybytes := rfl
@[simp] theorem complete_tp1max (s : State) (e : ErrCode) : (s.complete e).tp1max = s.tp1max := rfl
@[simp] theorem complete_tp2min (s : State) (e : ErrCode) : (s.complete e).tp2min = s.tp2min := rfl
@[simp] theorem complete_tp3min (s : State) (e : ErrCode) : (s.complete e).tp3min = s.tp3min := rfl
@[simp] theorem complete_tp4min (s : State) (e : ErrCode) : (s.complete e).tp4min = s.tp4min := rfl
@[simp] theorem complete_cksum (s : State) (e : ErrCode) : (s.complete e).cksum = s.cksum := rfl
@[simp] theorem complete_crcreg (s : State) (e : ErrCode) : (s.complete e).crcreg = s.crcreg := rfl
@[simp] theorem complete_txlen (s : State) (e : ErrCode) : (s.complete e).txlen = s.txlen := rfl
@[simp] theorem complete_txbuf (s : State) (e : ErrCode) : (s.complete e).txbuf = s.txbuf := rfl
@[simp] theorem complete_msgq (s : State) (e : ErrCode) : (s.complete e).msgq = s.msgq := rfl
@[simp] theorem complete_retries (s : State) (e : ErrCode) :
    (s.complete e).retries = s.retries := rfl
@[simp] theorem complete_now (s : State) (e : ErrCode) : (s.complete e).now = s.now := rfl
@[simp] theorem complete_l3active (s : State) (e : ErrCode) :
    (s.complete e).l3active = s.l3active := rfl
@[simp] theorem complete_l3buf (s : State) (e : ErrCode) : (s.complete e).l3buf = s.l3buf := rfl
@[simp] theorem complete_l3idle (s : State) (e : ErrCode) : (s.complete e).l3idle = s.l3idle := rfl
@[simp] theorem complete_estate (s : State) (e : ErrCode) : (s.complete e).estate = .idle := rfl
@[simp] theorem complete_fastbuf (s : State) (e : ErrCode) :
    (s.complete e).fastbuf = s.fastbuf := rfl
@[simp] theorem complete_lasttx (s : State) (e : ErrCode) : (s.complete e).lasttx = s.lasttx := rfl
@[simp] theorem complete_arb (s : State) (e : ErrCode) : (s.complete e).arb = s.arb := rfl
@[simp] theorem complete_modelFault (s : State) (e : ErrCode) :
    (s.complete e).modelFault = s.modelFault := rfl
@[simp] theorem complete_history (s : State) (e : ErrCode) :
    (s.complete e).history = s.history := rfl
@[simp] theorem complete_readData (s : State) (e : ErrCode) :
    (s.complete e).readData = s.readData := rfl
@[simp] theorem complete_inputs (s : State) (e : ErrCode) : (s.complete e).inputs = s.inputs := rfl
@[simp] theorem complete_freeReads (s : State) (e : ErrCode) :
    (s.complete e).freeReads = s.freeReads := rfl
@[simp] theorem complete_resets (s : State) (e : ErrCode) : (s.complete e).resets = s.resets := rfl
@[simp] theorem complete_params (s : State) (e : ErrCode) : (s.complete e).params = s.params := rfl

/-! ### tick -/

@[simp] theorem tick_busy (s : State) : (s.tick).busy = s.busy := rfl
@[simp] theorem tick_verify (s : State) : (s.tick).verify = s.verify := rfl
@[simp] theorem tick_link (s : State) : (s.tick).link = s.link := rfl
@[simp] theorem tick_err (s : State) : (s.tick).err = s.err := rfl
@[simp] theorem tick_config (s : State) : (s.tick).config = s.config := rfl
@[simp] theorem tick_addr (s : State) : (s.tick).addr = s.addr := rfl
@[simp] theorem tick_speed (s : State) : (s.tick).speed = s.speed := rfl
@[simp] theorem tick_timeout (s : State) : (s.tick).timeout = s.timeout := rfl
@[simp] theorem tick_l0flags (s : State) : (s.tick).l0flags = s.l0flags := rfl
@[simp] theorem tick_flags (s : State) : (s.tick).flags = s.flags := rfl
@[simp] theorem tick_keybytes (s : State) : (s.tick).keybytes = s.keybytes := rfl
@[simp] theorem tick_tp1max (s : State) : (s.tick).tp1max = s.tp1max := rfl
@[simp] theorem tick_tp2min (s : State) : (s.tick).tp2min = s.tp2min := rfl
@[simp] theorem tick_tp3min (s : State) : (s.tick).tp3min = s.tp3min := rfl
@[simp] theorem tick_tp4min (s : State) : (s.tick).tp4min = s.tp4min := rfl
@[simp] theorem tick_cksum (s : State) : (s.tick).cksum = s.cksum := rfl
@[simp] theorem tick_crcreg (s : State) : (s.tick).crcreg = s.crcreg := rfl
@[simp] theorem tick_txlen (s : State) : (s.tick).txlen = s.txlen := rfl
@[simp] theorem tick_txbuf (s : State) : (s.tick).txbuf = s.txbuf := rfl
@[simp] theorem tick_msgq (s : State) : (s.tick).msgq = s.msgq := rfl
@[simp] theorem tick_retries (s : State) : (s.tick).retries = s.retries := rfl
@[simp] theorem tick_now (s : State) : (s.tick).now = s.now + 1 := rfl
@[simp] theorem tick_l3active (s : State) : (s.tick).l3active = s.l3active := rfl
@[simp] theorem tick_l3buf (s : State) : (s.tick).l3buf = s.l3buf := rfl
@[simp] theorem tick_l3idle (s : State) : (s.tick).l3idle = s.l3idle := rfl
@[simp] theorem tick_estate (s : State) : (s.tick).estate = s.estate := rfl
@[simp] theorem tick_fastbuf (s : State) : (s.tick).fastbuf = s.fastbuf := rfl
@[simp] theorem tick_lasttx (s : State) : (s.tick).lasttx = s.lasttx := rfl
@[simp] theorem tick_arb (s : State) : (s.tick).arb = s.arb := rfl
@[simp] theorem tick_modelFault (s : State) : (s.tick).modelFault = s.modelFault := rfl
@[simp] theorem tick_history (s : State) : (s.tick).history = s.history := rfl
@[simp] theorem tick_readData (s : State) : (s.tick).readData = s.readData := rfl
@[simp] theorem tick_inputs (s : State) : (s.tick).inputs = s.inputs := rfl
@[simp] theorem tick_freeReads (s : State) : (s.tick).freeReads = s.freeReads := rfl
@[simp] theorem tick_resets (s : State) : (s.tick).resets = s.resets := rfl
@[simp] theorem tick_params (s : State) : (s.tick).params = s.params := rfl

/-! ### issueAck -/

@[simp] theorem issueAck_busy (s : State) (op : AckOp) (k : AckKont) :
    (s.issueAck op k).busy = s.busy := rfl
@[simp] theorem issueAck_verify (s : State) (op : AckOp) (k : AckKont) :
    (s.issueAck op k).verify = s.verify := rfl
@[simp] theorem issueAck_link (s : State) (op : AckOp) (k : AckKont) :
    (s.issueAck op k).link = s.link := rfl
@[simp] theorem issueAck_err (s : State) (op : AckOp) (k : AckKont) :
    (s.issueAck op k).err = s.err := rfl
@[simp] theorem issueAck_config (s : State) (op : AckOp) (k : AckKont) :
    (s.issueAck op k).config = s.config := rfl
@[simp] theorem issueAck_addr (s : State) (op : AckOp) (k : AckKont) :
    (s.issueAck op k).addr = s.addr := rfl
@[simp] theorem issueAck_speed (s : State) (op : AckOp) (k : AckKont) :
    (s.issueAck op k).speed = s.speed := rfl
@[simp] theorem issueAck_timeout (s : State) (op : AckOp) (k : AckKont) :
    (s.issueAck op k).timeout = s.timeout := rfl
@[simp] theorem issueAck_l0flags (s : State) (op : AckOp) (k : AckKont) :
    (s.issueAck op k).l0flags = s.l0flags := rfl
@[simp] theorem issueAck_flags (s : State) (op : AckOp) (k : AckKont) :
    (s.issueAck op k).flags = s.flags := rfl
@[simp] theorem issueAck_keybytes (s : State) (op : AckOp) (k : AckKont) :
    (s.issueAck op k).keybytes = s.keybytes := rfl
@[simp] theorem issueAck_tp1max (s : State) (op : AckOp) (k : AckKont) :
    (s.issueAck op k).tp1max = s.tp1max := rfl
@[simp] theorem issueAck_tp2min (s : State) (op : AckOp) (k : AckKont) :
    (s.issueAck op k).tp2min = s.tp2min := rfl
@[simp] theorem issueAck_tp3min (s : State) (op : AckOp) (k : AckKont) :
    (s.issueAck op k).tp3min = s.tp3min := rfl
@[simp] theorem issueAck_tp4min (s : State) (op : AckOp) (k : AckKont) :
    (s.issueAck op k).tp4min = s.tp4min := rfl
@[simp] theorem issueAck_cksum (s : State) (op : AckOp) (k : AckKont) :
    (s.issueAck op k).cksum = s.cksum := rfl
@[simp] theorem issueAck_crcreg (s : State) (op : AckOp) (k : AckKont) :
    (s.issueAck op k).crcreg = s.crcreg := rfl
@[simp] theorem issueAck_txlen (s : State) (op : AckOp) (k : AckKont) :
    (s.issueAck op k).txlen = s.txlen := rfl
@[simp] theorem issueAck_txbuf (s : State) (op : AckOp) (k : AckKont) :
    (s.issueAck op k).txbuf = s.txbuf := rfl
@[simp] theorem issueAck_msgq (s : State) (op : AckOp) (k : AckKont) :
    (s.issueAck op k).msgq = s.msgq := rfl
@[simp] theorem issueAck_retries (s : State) (op : AckOp) (k : AckKont) :
    (s.issueAck op k).retries = s.retries := rfl
@[simp] theorem issueAck_now (s : State) (op : AckOp) (k : AckKont) :
    (s.issueAck op k).now = s.now := rfl
@[simp] theorem issueAck_l3active (s : State) (op : AckOp) (k : AckKont) :
    (s.issueAck op k).l3active = s.l3active := rfl
@[simp] theorem issueAck_l3buf (s : State) (op : AckOp) (k : AckKont) :
    (s.issueAck op k).l3buf = s.l3buf := rfl
@[simp] theorem issueAck_l3idle (s : State) (op : AckOp) (k : AckKont) :
    (s.issueAck op k).l3idle = s.l3idle := rfl
@[simp] theorem issueAck_estate (s : State) (op : AckOp) (k : AckKont) :
    (s.issueAck op k).estate = .awaitAck op k := rfl
@[simp] theorem issueAck_fastbuf (s : State) (op : AckOp) (k : AckKont) :
    (s.issueAck op k).fastbuf = s.fastbuf := rfl
@[simp] theorem issueAck_lasttx (s : State) (op : AckOp) (k : AckKont) :
    (s.issueAck op k).lasttx = s.lasttx := rfl
@[simp] theorem issueAck_arb (s : State) (op : AckOp) (k : AckKont) :
    (s.issueAck op k).arb = op.arb := rfl
@[simp] theorem issueAck_modelFault (s : State) (op : AckOp) (k : AckKont) :
    (s.issueAck op k).modelFault = s.modelFault := rfl
@[simp] theorem issueAck_history (s : State) (op : AckOp) (k : AckKont) :
    (s.issueAck op k).history = s.history := rfl
@[simp] theorem issueAck_readData (s : State) (op : AckOp) (k : AckKont) :
    (s.issueAck op k).readData = s.readData := rfl
@[simp] theorem issueAck_inputs (s : State) (op : AckOp) (k : AckKont) :
    (s.issueAck op k).inputs = s.inputs := rfl
@[simp] theorem issueAck_freeReads (s : State) (op : AckOp) (k : AckKont) :
    (s.issueAck op k).freeReads = s.freeReads := rfl
@[simp] theorem issueAck_resets (s : State) (op : AckOp) (k : AckKont) :
    (s.issueAck op k).resets = s.resets := rfl
@[simp] theorem issueAck_params (s : State) (op : AckOp) (k : AckKont) :
    (s.issueAck op k).params = s.params := rfl

/-! ### issueFlags -/

@[simp] theorem issueFlags_busy (s : State) (i : InitKind) : (s.issueFlags i).busy = s.busy := rfl
@[simp] theorem issueFlags_verify (s : State) (i : InitKind) :
    (s.issueFlags i).verify = s.verify := rfl
@[simp] theorem issueFlags_link (s : State) (i : InitKind) : (s.issueFlags i).link = s.link := rfl
@[simp] theorem issueFlags_err (s : State) (i : InitKind) : (s.issueFlags i).err = s.err := rfl
@[simp] theorem issueFlags_config (s : State) (i : InitKind) :
    (s.issueFlags i).config = s.config := rfl
@[simp] theorem issueFlags_addr (s : State) (i : InitKind) : (s.issueFlags i).addr = s.addr := rfl
@[simp] theorem issueFlags_speed (s : State) (i : InitKind) :
    (s.issueFlags i).speed = s.speed := rfl
@[simp] theorem issueFlags_timeout (s : State) (i : InitKind) :
    (s.issueFlags i).timeout = s.timeout := rfl
@[simp] theorem issueFlags_l0flags (s : State) (i : InitKind) :
    (s.issueFlags i).l0flags = s.l0flags := rfl
@[simp] theorem issueFlags_flags (s : State) (i : InitKind) :
    (s.issueFlags i).flags = s.flags := rfl
@[simp] theorem issueFlags_keybytes (s : State) (i : InitKind) :
    (s.issueFlags i).keybytes = s.keybytes := rfl
@[simp] theorem issueFlags_tp1max (s : State) (i : InitKind) :
    (s.issueFlags i).tp1max = s.tp1max := rfl
@[simp] theorem issueFlags_tp2min (s : State) (i : InitKind) :
    (s.issueFlags i).tp2min = s.tp2min := rfl
@[simp] theorem issueFlags_tp3min (s : State) (i : InitKind) :
    (s.issueFlags i).tp3min = s.tp3min := rfl
@[simp] theorem issueFlags_tp4min (s : State) (i : InitKind) :
    (s.issueFlags i).tp4min = s.tp4min := rfl
@[simp] theorem issueFlags_cksum (s : State) (i : InitKind) :
    (s.issueFlags i).cksum = s.cksum := rfl
@[simp] theorem issueFlags_crcreg (s : State) (i : InitKind) :
    (s.issueFlags i).crcreg = s.crcreg := rfl
@[simp] theorem issueFlags_txlen (s : State) (i : InitKind) :
    (s.issueFlags i).txlen = s.txlen := rfl
@[simp] theorem issueFlags_txbuf (s : State) (i : InitKind) :
    (s.issueFlags i).txbuf = s.txbuf := rfl
@[simp] theorem issueFlags_msgq (s : State) (i : InitKind) : (s.issueFlags i).msgq = s.msgq := rfl
@[simp] theorem issueFlags_retries (s : State) (i : InitKind) :
    (s.issueFlags i).retries = s.retries := rfl
@[simp] theorem issueFlags_now (s : State) (i : InitKind) : (s.issueFlags i).now = s.now := rfl
@[simp] theorem issueFlags_l3active (s : State) (i : InitKind) :
    (s.issueFlags i).l3active = s.l3active := rfl
@[simp] theorem issueFlags_l3buf (s : State) (i : InitKind) :
    (s.issueFlags i).l3buf = s.l3buf := rfl
@[simp] theorem issueFlags_l3idle (s : State) (i : InitKind) :
    (s.issueFlags i).l3idle = s.l3idle := rfl
@[simp] theorem issueFlags_estate (s : State) (i : InitKind) :
    (s.issueFlags i).estate = .awaitFlags i := rfl
@[simp] theorem issueFlags_fastbuf (s : State) (i : InitKind) :
    (s.issueFlags i).fastbuf = s.fastbuf := rfl
@[simp] theorem issueFlags_lasttx (s : State) (i : InitKind) :
    (s.issueFlags i).lasttx = s.lasttx := rfl
@[simp] theorem issueFlags_arb (s : State) (i : InitKind) : (s.issueFlags i).arb = .ctl := rfl
@[simp] theorem issueFlags_modelFault (s : State) (i : InitKind) :
    (s.issueFlags i).modelFault = s.modelFault := rfl
@[simp] theorem issueFlags_history (s : State) (i : InitKind) :
    (s.issueFlags i).history = s.history := rfl
@[simp] theorem issueFlags_readData (s : State) (i : InitKind) :
    (s.issueFlags i).readData = s.readData := rfl
@[simp] theorem issueFlags_inputs (s : State) (i : InitKind) :
    (s.issueFlags i).inputs = s.inputs := rfl
@[simp] theorem issueFlags_freeReads (s : State) (i : InitKind) :
    (s.issueFlags i).freeReads = s.freeReads := rfl
@[simp] theorem issueFlags_resets (s : State) (i : InitKind) :
    (s.issueFlags i).resets = s.resets := rfl
@[simp] theorem issueFlags_params (s : State) (i : InitKind) :
    (s.issueFlags i).params = s.params := rfl

/-! ### issueRecv -/

@[simp] theorem issueRecv_busy (s : State) (m t : Nat) (k : RecvKont) :
    (s.issueRecv m t k).busy = s.busy := rfl
@[simp] theorem issueRecv_verify (s : State) (m t : Nat) (k : RecvKont) :
    (s.issueRecv m t k).verify = s.verify := rfl
@[simp] theorem issueRecv_link (s : State) (m t : Nat) (k : RecvKont) :
    (s.issueRecv m t k).link = s.link := rfl
@[simp] theorem issueRecv_err (s : State) (m t : Nat) (k : RecvKont) :
    (s.issueRecv m t k).err = s.err := rfl
@[simp] theorem issueRecv_config (s : State) (m t : Nat) (k : RecvKont) :
    (s.issueRecv m t k).config = s.config := rfl
@[simp] theorem issueRecv_addr (s : State) (m t : Nat) (k : RecvKont) :
    (s.issueRecv m t k).addr = s.addr := rfl
@[simp] theorem issueRecv_speed (s : State) (m t : Nat) (k : RecvKont) :
    (s.issueRecv m t k).speed = s.speed := rfl
@[simp] theorem issueRecv_timeout (s : State) (m t : Nat) (k : RecvKont) :
    (s.issueRecv m t k).timeout = s.timeout := rfl
@[simp] theorem issueRecv_l0flags (s : State) (m t : Nat) (k : RecvKont) :
    (s.issueRecv m t k).l0flags = s.l0flags := rfl
@[simp] theorem issueRecv_flags (s : State) (m t : Nat) (k : RecvKont) :
    (s.issueRecv m t k).flags = s.flags := rfl
@[simp] theorem issueRecv_keybytes (s : State) (m t : Nat) (k : RecvKont) :
    (s.issueRecv m t k).keybytes = s.keybytes := rfl
@[simp] theorem issueRecv_tp1max (s : State) (m t : Nat) (k : RecvKont) :
    (s.issueRecv m t k).tp1max = s.tp1max := rfl
@[simp] theorem issueRecv_tp2min (s : State) (m t : Nat) (k : RecvKont) :
    (s.issueRecv m t k).tp2min = s.tp2min := rfl
@[simp] theorem issueRecv_tp3min (s : State) (m t : Nat) (k : RecvKont) :
    (s.issueRecv m t k).tp3min = s.tp3min := rfl
@[simp] theorem issueRecv_tp4min (s : State) (m t : Nat) (k : RecvKont) :
    (s.issueRecv m t k).tp4min = s.tp4min := rfl
@[simp] theorem issueRecv_cksum (s : State) (m t : Nat) (k : RecvKont) :
    (s.issueRecv m t k).cksum = s.cksum := rfl
@[simp] theorem issueRecv_crcreg (s : State) (m t : Nat) (k : RecvKont) :
    (s.issueRecv m t k).crcreg = s.crcreg := rfl
@[simp] theorem issueRecv_txlen (s : State) (m t : Nat) (k : RecvKont) :
    (s.issueRecv m t k).txlen = s.txlen := rfl
@[simp] theorem issueRecv_txbuf (s : State) (m t : Nat) (k : RecvKont) :
    (s.issueRecv m t k).txbuf = s.txbuf := rfl
@[simp] theorem issueRecv_msgq (s : State) (m t : Nat) (k : RecvKont) :
    (s.issueRecv m t k).msgq = s.msgq := rfl
@[simp] theorem issueRecv_retries (s : State) (m t : Nat) (k : RecvKont) :
    (s.issueRecv m t k).retries = s.retries := rfl
@[simp] theorem issueRecv_now (s : State) (m t : Nat) (k : RecvKont) :
    (s.issueRecv m t k).now = s.now := rfl
@[simp] theorem issueRecv_l3active (s : State) (m t : Nat) (k : RecvKont) :
    (s.issueRecv m t k).l3active = s.l3active := rfl
@[simp] theorem issueRecv_l3buf (s : State) (m t : Nat) (k : RecvKont) :
    (s.issueRecv m t k).l3buf = s.l3buf := rfl
@[simp] theorem issueRecv_l3idle (s : State) (m t : Nat) (k : RecvKont) :
    (s.issueRecv m t k).l3idle = s.l3idle := rfl
@[simp] theorem issueRecv_estate (s : State) (m t : Nat) (k : RecvKont) :
    (s.issueRecv m t k).estate = .awaitRecv m t k := rfl
@[simp] theorem issueRecv_fastbuf (s : State) (m t : Nat) (k : RecvKont) :
    (s.issueRecv m t k).fastbuf = s.fastbuf := rfl
@[simp] theorem issueRecv_lasttx (s : State) (m t : Nat) (k : RecvKont) :
    (s.issueRecv m t k).lasttx = s.lasttx := rfl
@[simp] theorem issueRecv_arb (s : State) (m t : Nat) (k : RecvKont) :
    (s.issueRecv m t k).arb = .rx := rfl
@[simp] theorem issueRecv_modelFault (s : State) (m t : Nat) (k : RecvKont) :
    (s.issueRecv m t k).modelFault = s.modelFault := rfl
@[simp] theorem issueRecv_history (s : State) (m t : Nat) (k : RecvKont) :
    (s.issueRecv m t k).history = s.history := rfl
@[simp] theorem issueRecv_readData (s : State) (m t : Nat) (k : RecvKont) :
    (s.issueRecv m t k).readData = s.readData := rfl
@[simp] theorem issueRecv_inputs (s : State) (m t : Nat) (k : RecvKont) :
    (s.issueRecv m t k).inputs = s.inputs := rfl
@[simp] theorem issueRecv_freeReads (s : State) (m t : Nat) (k : RecvKont) :
    (s.issueRecv m t k).freeReads = s.freeReads := rfl
@[simp] theorem issueRecv_resets (s : State) (m t : Nat) (k : RecvKont) :
    (s.issueRecv m t k).resets = s.resets := rfl
@[simp] theorem issueRecv_params (s : State) (m t : Nat) (k : RecvKont) :
    (s.issueRecv m t k).params = s.params := rfl

/-! ### settle -/

@[simp] theorem settle_busy (s : State) (op : L0Op) (a : L0Answer) (n : EState) :
    (s.settle op a n).busy = s.busy := rfl
@[simp] theorem settle_verify (s : State) (op : L0Op) (a : L0Answer) (n : EState) :
    (s.settle op a n).verify = s.verify := rfl
@[simp] theorem settle_link (s : State) (op : L0Op) (a : L0Answer) (n : EState) :
    (s.settle op a n).link = s.link := rfl
@[simp] theorem settle_err (s : State) (op : L0Op) (a : L0Answer) (n : EState) :
    (s.settle op a n).err = s.err := rfl
@[simp] theorem settle_config (s : State) (op : L0Op) (a : L0Answer) (n : EState) :
    (s.settle op a n).config = s.config := rfl
@[simp] theorem settle_addr (s : State) (op : L0Op) (a : L0Answer) (n : EState) :
    (s.settle op a n).addr = s.addr := rfl
@[simp] theorem settle_speed (s : State) (op : L0Op) (a : L0Answer) (n : EState) :
    (s.settle op a n).speed = s.speed := rfl
@[simp] theorem settle_timeout (s : State) (op : L0Op) (a : L0Answer) (n : EState) :
    (s.settle op a n).timeout = s.timeout := rfl
@[simp] theorem settle_l0flags (s : State) (op : L0Op) (a : L0Answer) (n : EState) :
    (s.settle op a n).l0flags = s.l0flags := rfl
@[simp] theorem settle_flags (s : State) (op : L0Op) (a : L0Answer) (n : EState) :
    (s.settle op a n).flags = s.flags := rfl
@[simp] theorem settle_keybytes (s : State) (op : L0Op) (a : L0Answer) (n : EState) :
    (s.settle op a n).keybytes = s.keybytes := rfl
@[simp] theorem settle_tp1max (s : State) (op : L0Op) (a : L0Answer) (n : EState) :
    (s.settle op a n).tp1max = s.tp1max := rfl
@[simp] theorem settle_tp2min (s : State) (op : L0Op) (a : L0Answer) (n : EState) :
    (s.settle op a n).tp2min = s.tp2min := rfl
@[simp] theorem settle_tp3min (s : State) (op : L0Op) (a : L0Answer) (n : EState) :
    (s.settle op a n).tp3min = s.tp3min := rfl
@[simp] theorem settle_tp4min (s : State) (op : L0Op) (a : L0Answer) (n : EState) :
    (s.settle op a n).tp4min = s.tp4min := rfl
@[simp] theorem settle_cksum (s : State) (op : L0Op) (a : L0Answer) (n : EState) :
    (s.settle op a n).cksum = s.cksum := rfl
@[simp] theorem settle_crcreg (s : State) (op : L0Op) (a : L0Answer) (n : EState) :
    (s.settle op a n).crcreg = s.crcreg := rfl
@[simp] theorem settle_txlen (s : State) (op : L0Op) (a : L0Answer) (n : EState) :
    (s.settle op a n).txlen = s.txlen := rfl
@[simp] theorem settle_txbuf (s : State) (op : L0Op) (a : L0Answer) (n : EState) :
    (s.settle op a n).txbuf = s.txbuf := rfl
@[simp] theorem settle_msgq (s : State) (op : L0Op) (a : L0Answer) (n : EState) :
    (s.settle op a n).msgq = s.msgq := rfl
@[simp] theorem settle_retries (s : State) (op : L0Op) (a : L0Answer) (n : EState) :
    (s.settle op a n).retries = s.retries := rfl
@[simp] theorem settle_now (s : State) (op : L0Op) (a : L0Answer) (n : EState) :
    (s.settle op a n).now = s.now := rfl
@[simp] theorem settle_l3active (s : State) (op : L0Op) (a : L0Answer) (n : EState) :
    (s.settle op a n).l3active = s.l3active := rfl
@[simp] theorem settle_l3buf (s : State) (op : L0Op) (a : L0Answer) (n : EState) :
    (s.settle op a n).l3buf = s.l3buf := rfl
@[simp] theorem settle_l3idle (s : State) (op : L0Op) (a : L0Answer) (n : EState) :
    (s.settle op a n).l3idle = s.l3idle := rfl
@[simp] theorem settle_estate (s : State) (op : L0Op) (a : L0Answer) (n : EState) :
    (s.settle op a n).estate = n := rfl
@[simp] theorem settle_fastbuf (s : State) (op : L0Op) (a : L0Answer) (n : EState) :
    (s.settle op a n).fastbuf = s.fastbuf := rfl
@[simp] theorem settle_lasttx (s : State) (op : L0Op) (a : L0Answer) (n : EState) :
    (s.settle op a n).lasttx = s.lasttx := rfl
@[simp] theorem settle_arb (s : State) (op : L0Op) (a : L0Answer) (n : EState) :
    (s.settle op a n).arb = .idle := rfl
@[simp] theorem settle_modelFault (s : State) (op : L0Op) (a : L0Answer) (n : EState) :
    (s.settle op a n).modelFault = s.modelFault := rfl
@[simp] theorem settle_history (s : State) (op : L0Op) (a : L0Answer) (n : EState) :
    (s.settle op a n).history = s.history ++ [⟨op, some a⟩] := rfl
@[simp] theorem settle_readData (s : State) (op : L0Op) (a : L0Answer) (n : EState) :
    (s.settle op a n).readData = s.readData := rfl
@[simp] theorem settle_inputs (s : State) (op : L0Op) (a : L0Answer) (n : EState) :
    (s.settle op a n).inputs = s.inputs := rfl
@[simp] theorem settle_freeReads (s : State) (op : L0Op) (a : L0Answer) (n : EState) :
    (s.settle op a n).freeReads = s.freeReads := rfl
@[simp] theorem settle_resets (s : State) (op : L0Op) (a : L0Answer) (n : EState) :
    (s.settle op a n).resets = s.resets := rfl
@[simp] theorem settle_params (s : State) (op : L0Op) (a : L0Answer) (n : EState) :
    (s.settle op a n).params = s.params := rfl

/-! ### setRetries -/

@[simp] theorem setRetries_busy (s : State) (n : Nat) : (s.setRetries n).busy = s.busy := rfl
@[simp] theorem setRetries_verify (s : State) (n : Nat) : (s.setRetries n).verify = s.verify := rfl
@[simp] theorem setRetries_link (s : State) (n : Nat) : (s.setRetries n).link = s.link := rfl
@[simp] theorem setRetries_err (s : State) (n : Nat) : (s.setRetries n).err = s.err := rfl
@[simp] theorem setRetries_config (s : State) (n : Nat) : (s.setRetries n).config = s.config := rfl
@[simp] theorem setRetries_addr (s : State) (n : Nat) : (s.setRetries n).addr = s.addr := rfl
@[simp] theorem setRetries_speed (s : State) (n : Nat) : (s.setRetries n).speed = s.speed := rfl
@[simp] theorem setRetries_timeout (s : State) (n : Nat) :
    (s.setRetries n).timeout = s.timeout := rfl
@[simp] theorem setRetries_l0flags (s : State) (n : Nat) :
    (s.setRetries n).l0flags = s.l0flags := rfl
@[simp] theorem setRetries_flags (s : State) (n : Nat) : (s.setRetries n).flags = s.flags := rfl
@[simp] theorem setRetries_keybytes (s : State) (n : Nat) :
    (s.setRetries n).keybytes = s.keybytes := rfl
@[simp] theorem setRetries_tp1max (s : State) (n : Nat) : (s.setRetries n).tp1max = s.tp1max := rfl
@[simp] theorem setRetries_tp2min (s : State) (n : Nat) : (s.setRetries n).tp2min = s.tp2min := rfl
@[simp] theorem setRetries_tp3min (s : State) (n : Nat) : (s.setRetries n).tp3min = s.tp3min := rfl
@[simp] theorem setRetries_tp4min (s : State) (n : Nat) : (s.setRetries n).tp4min = s.tp4min := rfl
@[simp] theorem setRetries_cksum (s : State) (n : Nat) : (s.setRetries n).cksum = s.cksum := rfl
@[simp] theorem setRetries_crcreg (s : State) (n : Nat) : (s.setRetries n).crcreg = s.crcreg := rfl
@[simp] theorem setRetries_txlen (s : State) (n : Nat) : (s.setRetries n).txlen = s.txlen := rfl
@[simp] theorem setRetries_txbuf (s : State) (n : Nat) : (s.setRetries n).txbuf = s.txbuf := rfl
@[simp] theorem setRetries_msgq (s : State) (n : Nat) : (s.setRetries n).msgq = s.msgq := rfl
@[simp] theorem setRetries_retries (s : State) (n : Nat) :
    (s.setRetries n).retries = BitVec.ofNat 8 n := rfl
@[simp] theorem setRetries_now (s : State) (n : Nat) : (s.setRetries n).now = s.now := rfl
@[simp] theorem setRetries_l3active (s : State) (n : Nat) :
    (s.setRetries n).l3active = s.l3active := rfl
@[simp] theorem setRetries_l3buf (s : State) (n : Nat) : (s.setRetries n).l3buf = s.l3buf := rfl
@[simp] theorem setRetries_l3idle (s : State) (n : Nat) : (s.setRetries n).l3idle = s.l3idle := rfl
@[simp] theorem setRetries_estate (s : State) (n : Nat) : (s.setRetries n).estate = s.estate := rfl
@[simp] theorem setRetries_fastbuf (s : State) (n : Nat) :
    (s.setRetries n).fastbuf = s.fastbuf := rfl
@[simp] theorem setRetries_lasttx (s : State) (n : Nat) : (s.setRetries n).lasttx = s.lasttx := rfl
@[simp] theorem setRetries_arb (s : State) (n : Nat) : (s.setRetries n).arb = s.arb := rfl
@[simp] theorem setRetries_modelFault (s : State) (n : Nat) :
    (s.setRetries n).modelFault = s.modelFault := rfl
@[simp] theorem setRetries_history (s : State) (n : Nat) :
    (s.setRetries n).history = s.history := rfl
@[simp] theorem setRetries_readData (s : State) (n : Nat) :
    (s.setRetries n).readData = s.readData := rfl
@[simp] theorem setRetries_inputs (s : State) (n : Nat) : (s.setRetries n).inputs = s.inputs := rfl
@[simp] theorem setRetries_freeReads (s : State) (n : Nat) :
    (s.setRetries n).freeReads = s.freeReads := rfl
@[simp] theorem setRetries_resets (s : State) (n : Nat) : (s.setRetries n).resets = s.resets := rfl
@[simp] theorem setRetries_params (s : State) (n : Nat) : (s.setRetries n).params = s.params := rfl

/-! ### takeBytes -/

@[simp] theorem takeBytes_busy (s : State) (d : List Byte) : (s.takeBytes d).busy = s.busy := rfl
@[simp] theorem takeBytes_verify (s : State) (d : List Byte) :
    (s.takeBytes d).verify = s.verify := rfl
@[simp] theorem takeBytes_link (s : State) (d : List Byte) : (s.takeBytes d).link = s.link := rfl
@[simp] theorem takeBytes_err (s : State) (d : List Byte) : (s.takeBytes d).err = s.err := rfl
@[simp] theorem takeBytes_config (s : State) (d : List Byte) :
    (s.takeBytes d).config = s.config := rfl
@[simp] theorem takeBytes_addr (s : State) (d : List Byte) : (s.takeBytes d).addr = s.addr := rfl
@[simp] theorem takeBytes_speed (s : State) (d : List Byte) : (s.takeBytes d).speed = s.speed := rfl
@[simp] theorem takeBytes_timeout (s : State) (d : List Byte) :
    (s.takeBytes d).timeout = s.timeout := rfl
@[simp] theorem takeBytes_l0flags (s : State) (d : List Byte) :
    (s.takeBytes d).l0flags = s.l0flags := rfl
@[simp] theorem takeBytes_flags (s : State) (d : List Byte) : (s.takeBytes d).flags = s.flags := rfl
@[simp] theorem takeBytes_keybytes (s : State) (d : List Byte) :
    (s.takeBytes d).keybytes = s.keybytes := rfl
@[simp] theorem takeBytes_tp1max (s : State) (d : List Byte) :
    (s.takeBytes d).tp1max = s.tp1max := rfl
@[simp] theorem takeBytes_tp2min (s : State) (d : List Byte) :
    (s.takeBytes d).tp2min = s.tp2min := rfl
@[simp] theorem takeBytes_tp3min (s : State) (d : List Byte) :
    (s.takeBytes d).tp3min = s.tp3min := rfl
@[simp] theorem takeBytes_tp4min (s : State) (d : List Byte) :
    (s.takeBytes d).tp4min = s.tp4min := rfl
@[simp] theorem takeBytes_cksum (s : State) (d : List Byte) : (s.takeBytes d).cksum = s.cksum := rfl
@[simp] theorem takeBytes_crcreg (s : State) (d : List Byte) :
    (s.takeBytes d).crcreg = s.crcreg := rfl
@[simp] theorem takeBytes_txlen (s : State) (d : List Byte) : (s.takeBytes d).txlen = s.txlen := rfl
@[simp] theorem takeBytes_txbuf (s : State) (d : List Byte) : (s.takeBytes d).txbuf = s.txbuf := rfl
@[simp] theorem takeBytes_msgq (s : State) (d : List Byte) : (s.takeBytes d).msgq = s.msgq := rfl
@[simp] theorem takeBytes_retries (s : State) (d : List Byte) :
    (s.takeBytes d).retries = s.retries := rfl
@[simp] theorem takeBytes_now (s : State) (d : List Byte) : (s.takeBytes d).now = s.now := rfl
@[simp] theorem takeBytes_l3active (s : State) (d : List Byte) :
    (s.takeBytes d).l3active = s.l3active := rfl
@[simp] theorem takeBytes_l3buf (s : State) (d : List Byte) :
    (s.takeBytes d).l3buf = s.l3buf ++ d := rfl
@[simp] theorem takeBytes_l3idle (s : State) (d : List Byte) : (s.takeBytes d).l3idle = s.now := rfl
@[simp] theorem takeBytes_estate (s : State) (d : List Byte) :
    (s.takeBytes d).estate = s.estate := rfl
@[simp] theorem takeBytes_fastbuf (s : State) (d : List Byte) :
    (s.takeBytes d).fastbuf = s.fastbuf := rfl
@[simp] theorem takeBytes_lasttx (s : State) (d : List Byte) :
    (s.takeBytes d).lasttx = s.lasttx := rfl
@[simp] theorem takeBytes_arb (s : State) (d : List Byte) : (s.takeBytes d).arb = s.arb := rfl
@[simp] theorem takeBytes_modelFault (s : State) (d : List Byte) :
    (s.takeBytes d).modelFault = s.modelFault := rfl
@[simp] theorem takeBytes_history (s : State) (d : List Byte) :
    (s.takeBytes d).history = s.history := rfl
@[simp] theorem takeBytes_readData (s : State) (d : List Byte) :
    (s.takeBytes d).readData = s.readData := rfl
@[simp] theorem takeBytes_inputs (s : State) (d : List Byte) :
    (s.takeBytes d).inputs = s.inputs := rfl
@[simp] theorem takeBytes_freeReads (s : State) (d : List Byte) :
    (s.takeBytes d).freeReads = s.freeReads := rfl
@[simp] theorem takeBytes_resets (s : State) (d : List Byte) :
    (s.takeBytes d).resets = s.resets := rfl
@[simp] theorem takeBytes_params (s : State) (d : List Byte) :
    (s.takeBytes d).params = s.params := rfl

/-! ### the reset input -/

@[simp] theorem resetBlock_busy (s : State) : s.resetBlock.busy = State.reset.busy := rfl
@[simp] theorem resetBlock_verify (s : State) : s.resetBlock.verify = State.reset.verify := rfl
@[simp] theorem resetBlock_link (s : State) : s.resetBlock.link = State.reset.link := rfl
@[simp] theorem resetBlock_err (s : State) : s.resetBlock.err = State.reset.err := rfl
@[simp] theorem resetBlock_config (s : State) : s.resetBlock.config = State.reset.config := rfl
@[simp] theorem resetBlock_addr (s : State) : s.resetBlock.addr = State.reset.addr := rfl
@[simp] theorem resetBlock_speed (s : State) : s.resetBlock.speed = State.reset.speed := rfl
@[simp] theorem resetBlock_timeout (s : State) : s.resetBlock.timeout = State.reset.timeout := rfl
@[simp] theorem resetBlock_l0flags (s : State) : s.resetBlock.l0flags = State.reset.l0flags := rfl
@[simp] theorem resetBlock_flags (s : State) : s.resetBlock.flags = State.reset.flags := rfl
@[simp] theorem resetBlock_keybytes (s : State) : s.resetBlock.keybytes = State.reset.keybytes := rfl
@[simp] theorem resetBlock_tp1max (s : State) : s.resetBlock.tp1max = State.reset.tp1max := rfl
@[simp] theorem resetBlock_tp2min (s : State) : s.resetBlock.tp2min = State.reset.tp2min := rfl
@[simp] theorem resetBlock_tp3min (s : State) : s.resetBlock.tp3min = State.reset.tp3min := rfl
@[simp] theorem resetBlock_tp4min (s : State) : s.resetBlock.tp4min = State.reset.tp4min := rfl
@[simp] theorem resetBlock_cksum (s : State) : s.resetBlock.cksum = State.reset.cksum := rfl
@[simp] theorem resetBlock_crcreg (s : State) : s.resetBlock.crcreg = State.reset.crcreg := rfl
@[simp] theorem resetBlock_txlen (s : State) : s.resetBlock.txlen = State.reset.txlen := rfl
@[simp] theorem resetBlock_txbuf (s : State) : s.resetBlock.txbuf = State.reset.txbuf := rfl
@[simp] theorem resetBlock_msgq (s : State) : s.resetBlock.msgq = State.reset.msgq := rfl
@[simp] theorem resetBlock_retries (s : State) : s.resetBlock.retries = State.reset.retries := rfl
@[simp] theorem resetBlock_now (s : State) : s.resetBlock.now = State.reset.now := rfl
@[simp] theorem resetBlock_l3active (s : State) : s.resetBlock.l3active = State.reset.l3active := rfl
@[simp] theorem resetBlock_l3buf (s : State) : s.resetBlock.l3buf = State.reset.l3buf := rfl
@[simp] theorem resetBlock_l3idle (s : State) : s.resetBlock.l3idle = State.reset.l3idle := rfl
@[simp] theorem resetBlock_estate (s : State) : s.resetBlock.estate = State.reset.estate := rfl
@[simp] theorem resetBlock_fastbuf (s : State) : s.resetBlock.fastbuf = State.reset.fastbuf := rfl
@[simp] theorem resetBlock_lasttx (s : State) : s.resetBlock.lasttx = State.reset.lasttx := rfl
@[simp] theorem resetBlock_arb (s : State) : s.resetBlock.arb = State.reset.arb := rfl
@[simp] theorem resetBlock_modelFault (s : State) : s.resetBlock.modelFault = none := rfl
@[simp] theorem resetBlock_readData (s : State) : s.resetBlock.readData = s.readData := rfl
@[simp] theorem resetBlock_inputs (s : State) : s.resetBlock.inputs = s.inputs := rfl
@[simp] theorem resetBlock_freeReads (s : State) : s.resetBlock.freeReads = s.freeReads := rfl
@[simp] theorem resetBlock_resets (s : State) : s.resetBlock.resets = s.resets + 1 := rfl
@[simp] theorem resetBlock_params (s : State) : s.resetBlock.params = s.params := rfl

/-! ### The operands after setRetries and complete -/

@[simp] theorem setRetries_proto (s : State) (n : Nat) : (s.setRetries n).proto = s.proto := rfl
@[simp] theorem setRetries_l0Has (s : State) (n : Nat) (c : Cap) :
    (s.setRetries n).l0Has c = s.l0Has c := rfl
@[simp] theorem setRetries_has (s : State) (n : Nat) (c : Cap) :
    (s.setRetries n).has c = s.has c := rfl
@[simp] theorem setRetries_txbytes (s : State) (n : Nat) :
    (s.setRetries n).txbytes = s.txbytes := rfl
@[simp] theorem complete_proto (s : State) (e : ErrCode) : (s.complete e).proto = s.proto := rfl
@[simp] theorem complete_l0Has (s : State) (e : ErrCode) (c : Cap) :
    (s.complete e).l0Has c = s.l0Has c := rfl
@[simp] theorem complete_has (s : State) (e : ErrCode) (c : Cap) :
    (s.complete e).has c = s.has c := rfl

end Sys2Proof.Machine
end

