-- ==== Sys2Proof/Laws/Ops.lean ====
section
/-! SUPPORT. For each shared operation, one lemma that says what it can do. -/

namespace Sys2Proof.Machine

/-- What `txbytes()` can answer (R116). -/
theorem txbytes_cases (s : State) :
    (s.txlen.toNat > Config.txCap ∧ s.txbytes = .tooLong) ∨
    (s.txlen.toNat ≤ Config.txCap ∧ s.txbuf.readRange 0 s.txlen.toNat = none ∧
      s.txbytes = .unwritten) ∨
    (∃ bs, s.txlen.toNat ≤ Config.txCap ∧ s.txbuf.readRange 0 s.txlen.toNat = some bs ∧
      s.txbytes = .bytes bs) := by
  unfold State.txbytes
  split
  · exact .inl ⟨‹_›, rfl⟩
  · split
    · exact .inr (.inr ⟨_, by omega, ‹_›, rfl⟩)
    · exact .inr (.inl ⟨by omega, ‹_›, rfl⟩)

/-- What a command on the bytes of TXBUF answers where it answers a next state (R116). -/
theorem onTxBytes_next {s t : State} {k : List Byte → State} (h : s.onTxBytes k = .next t) :
    t = s.complete .badLength ∨ ∃ bs, s.txbytes = .bytes bs ∧ t = k bs := by
  unfold State.onTxBytes at h
  split at h
  · cases h; exact .inl rfl
  · contradiction
  · rename_i bs hbs
    cases h
    exact .inr ⟨bs, hbs, rfl⟩

/-- A command on the bytes of TXBUF never refuses, and its only fault is UnwrittenTxbuf. -/
theorem onTxBytes_fault {s : State} {k : List Byte → State} {f : Fault}
    (h : s.onTxBytes k = .fault f) : f = .unwrittenTxbuf ∧ s.txbytes = .unwritten := by
  unfold State.onTxBytes at h
  split at h
  · contradiction
  · cases h; exact ⟨rfl, ‹_›⟩
  · contradiction

/-- What an answer of the L0 port can do: nothing, or settle the operation in flight (R62). -/
theorem answer_cases (s : State) (a : L0Answer) :
    s.answer a = s ∨
    (∃ op k, s.estate = .awaitAck op k ∧
      ((a = .ok ∧ s.answer a = s.settle (.ack op) .ok (.answeredAck none k)) ∨
       ∃ e, a = .err e ∧ op.mayFail e = true ∧
         s.answer a = s.settle (.ack op) (.err e) (.answeredAck (some e) k))) ∨
    (∃ init f, s.estate = .awaitFlags init ∧ a = .flags f ∧
      s.answer a = s.settle .getFlags (.flags f) (.answeredFlags f init)) ∨
    (∃ m t k, s.estate = .awaitRecv m t k ∧
      ((∃ d, a = .data d ∧ 1 ≤ d.length ∧ d.length ≤ m ∧
         s.answer a = s.settle (.recv m t) (.data d) (.answeredRecv (.data d) s.now k)) ∨
       ∃ e, a = .err e ∧
         s.answer a = s.settle (.recv m t) (.err e) (.answeredRecv (.err e) s.now k))) := by
  cases hs : s.estate <;> cases a <;> simp only [State.answer, hs, true_or]
  · exact .inr (.inl ⟨_, _, rfl, .inl ⟨trivial, rfl⟩⟩)
  · split
    · exact .inr (.inl ⟨_, _, rfl, .inr ⟨_, rfl, ‹_›, rfl⟩⟩)
    · exact .inl rfl
  · exact .inr (.inr (.inl ⟨_, _, rfl, rfl, rfl⟩))
  · exact .inr (.inr (.inr ⟨_, _, _, rfl, .inr ⟨_, rfl, rfl⟩⟩))
  · split
    · rename_i h
      exact .inr (.inr (.inr ⟨_, _, _, rfl, .inl ⟨_, rfl, h.1, h.2, rfl⟩⟩))
    · exact .inl rfl

/-- `append_msgs` appends all or nothing (R217). -/
theorem appendMsgs_eq_some {s t : State} {msgs : List Message} :
    s.appendMsgs msgs = some t ↔
      s.msgq.length + msgs.length ≤ Config.msgqCap ∧ t = { s with msgq := s.msgq ++ msgs } := by
  unfold State.appendMsgs
  split
  · simp; omega
  · have h : s.msgq.length + msgs.length ≤ Config.msgqCap := by omega
    simp only [Option.some.injEq, h, true_and]
    exact eq_comm

/-- What `l3_read` can do: fail without an L0 operation, or read what is free (R253). -/
theorem l3Read_cases (s : State) (t : Nat) (k : RecvKont) (onErr : ErrCode → State) :
    (s.proto = some .vag ∧ l3Read s t k onErr = onErr .protocolNotSupported) ∨
    (s.l3buf.length ≥ Config.l3bufCap ∧ l3Read s t k onErr = onErr .timeout) ∨
    (s.l3buf.length < Config.l3bufCap ∧
      l3Read s t k onErr = s.issueRecv (Config.l3bufCap - s.l3buf.length) t k) := by
  unfold l3Read
  split
  · exact .inl ⟨‹_›, rfl⟩
  · split
    · exact .inr (.inl ⟨‹_›, rfl⟩)
    · exact .inr (.inr ⟨by omega, rfl⟩)

/-- `reassemble` slices at most `room` messages and leaves no more bytes than it had (R247). -/
theorem reassemble_bounds (p : Params) (now : Word) (room : Nat) (buf : List Byte) :
    (reassemble p now room buf).out.length ≤ room ∧
      (reassemble p now room buf).buf.length ≤ buf.length := by
  induction room generalizing buf with
  | zero => simp [reassemble]
  | succ room ih =>
    simp only [reassemble]
    split
    · simp
    · unfold afterBadData
      split <;> simp
    · split
      · simp
      · rename_i n _ _
        obtain ⟨h₁, h₂⟩ := ih (buf.drop n)
        simp only [List.length_cons, List.length_drop] at h₁ h₂ ⊢
        omega

end Sys2Proof.Machine
end

