-- ==== Sys2Proof/Laws/Engine.lean ====
section
/-! SUPPORT. The run of a command over the events to come: its equations, and the one induction that
every claim about all runs of a command is made by. -/

namespace Sys2Proof.Machine

/-- A command that has ended takes no event. -/
theorem runOver_of_not_running {s : State} (h : s.estate.running = false) (evs : List Input) :
    runOver evs s = { s with inputs := evs } := by
  cases evs <;> simp [runOver, h]

/-- A running command takes an event of the engine, the clock or the L0 port. -/
theorem runOver_cons {s s' : State} {ev : Input} (h : s.estate.running = true)
    (he : engineEvent s ev = some s') (rest : List Input) :
    runOver (ev :: rest) s = runOver rest s' := by
  simp [runOver, h, he]

/-- A running command is suspended at a host access and at the reset input. -/
theorem runOver_suspended {s : State} {ev : Input} (he : engineEvent s ev = none) (rest : List Input) :
    runOver (ev :: rest) s = { s with inputs := ev :: rest } := by
  simp [runOver, he]

/-- What the tick, an answer and the engine keep, a run keeps. `Q` must not look at the events to come. -/
theorem runOver_induct (Q : State → Prop) (hin : ∀ s evs, Q s → Q { s with inputs := evs })
    (htick : ∀ s, Q s → Q s.tick) (hans : ∀ s a, Q s → Q (s.answer a)) (hact : ∀ s, Q s → Q (act s))
    (evs : List Input) (s : State) (hs : Q s) : Q (runOver evs s) := by
  induction evs generalizing s with
  | nil => exact hin _ _ hs
  | cons ev rest ih =>
    simp only [runOver]
    split
    · cases ev with
      | tick => exact ih _ (htick _ hs)
      | engine => exact ih _ (hact _ hs)
      | answer a => exact ih _ (hans _ _ hs)
      | reset => exact hin _ _ hs
      | hostRead _ _ => exact hin _ _ hs
      | hostWrite _ _ _ => exact hin _ _ hs
    · exact hin _ _ hs

/-- A command that ended before its run is left as it is. -/
theorem runCommand_complete (s : State) (e : ErrCode) : runCommand (s.complete e) = s.complete e := by
  rw [runCommand, runOver_of_not_running rfl]

theorem thenRun_next (s : State) : thenRun (.next s) = .next (runCommand s) := rfl

/-! ### Sending -/

/-- `emit` sends byte by byte exactly a K-line frame of more than one byte on an L0 device that does not
insert the P4 gap itself (R189). -/
theorem bytewise_iff (s : State) (frame : List Byte) :
    s.bytewise frame = true ↔
      (s.proto = some .iso9141 ∨ s.proto = some .iso14230) ∧ s.l0Has .doesP4Wait = false ∧
        1 < frame.length := by
  simp [State.bytewise, and_assoc]

/-- What `l2_send_bytes` can do: report what the framer says, report that the receive that follows is not
supported, or emit the frame (R184, R294). -/
theorem l2SendBytes_cases (s : State) (c : Sender) (bs : List Byte) :
    (∃ e, frameFor s bs = .error e ∧ l2SendBytes s c bs = s.complete e) ∨
    (∃ f, frameFor s bs = .ok f ∧ s.answerUnsupported c = true ∧
      l2SendBytes s c bs = s.complete .protocolNotSupported) ∨
    (∃ f, frameFor s bs = .ok f ∧ s.answerUnsupported c = false ∧
      l2SendBytes s c bs = emit s c f) := by
  cases hf : frameFor s bs with
  | error e => exact .inl ⟨e, rfl, by simp [l2SendBytes, hf]⟩
  | ok f =>
    cases hu : s.answerUnsupported c with
    | true => exact .inr (.inl ⟨f, rfl, rfl, by simp [l2SendBytes, hf, hu]⟩)
    | false => exact .inr (.inr ⟨f, rfl, rfl, by simp [l2SendBytes, hf, hu]⟩)

/-! ### One event after another -/

/-- An operation in flight is answered Ok, and the engine acts (R62). -/
theorem runOver_ok {s : State} {op : AckOp} {k : AckKont} (h : s.estate = .awaitAck op k)
    (rest : List Input) :
    runOver (.answer .ok :: .engine :: rest) s =
      runOver rest (onAck (s.settle (.ack op) .ok (.answeredAck none k)) none k) := by
  simp [runOver, engineEvent, State.answer, act, EState.running, h]

/-- An operation in flight is answered with an error it may answer, and the engine acts (R59, R62). -/
theorem runOver_ackErr {s : State} {op : AckOp} {k : AckKont} {e : L0Err}
    (h : s.estate = .awaitAck op k) (he : op.mayFail e = true) (rest : List Input) :
    runOver (.answer (.err e) :: .engine :: rest) s =
      runOver rest (onAck (s.settle (.ack op) (.err e) (.answeredAck (some e) k)) (some e) k) := by
  simp [runOver, engineEvent, State.answer, act, EState.running, h, he]

/-- `L0.get_flags` is answered, and the engine acts (R62). -/
theorem runOver_flags {s : State} {init : InitKind} (h : s.estate = .awaitFlags init)
    (f : BitVec 9) (rest : List Input) :
    runOver (.answer (.flags f) :: .engine :: rest) s =
      runOver rest
        (onGetFlags (s.settle .getFlags (.flags f) (.answeredFlags f init)) f init) := by
  simp [runOver, engineEvent, State.answer, act, EState.running, h]

/-- A read in flight is answered with bytes that it admits, and the engine acts (R58, R62). -/
theorem runOver_data {s : State} {m t : Nat} {k : RecvKont} {d : List Byte}
    (h : s.estate = .awaitRecv m t k) (h₁ : 1 ≤ d.length) (h₂ : d.length ≤ m) (rest : List Input) :
    runOver (.answer (.data d) :: .engine :: rest) s =
      runOver rest
        (onRecv (s.settle (.recv m t) (.data d) (.answeredRecv (.data d) s.now k)) (.data d)
          s.now k) := by
  simp [runOver, engineEvent, State.answer, act, EState.running, h, h₁, h₂]

/-- A read in flight is answered with an error, and the engine acts (R61, R62). -/
theorem runOver_recvErr {s : State} {m t : Nat} {k : RecvKont} {e : L0Err}
    (h : s.estate = .awaitRecv m t k) (rest : List Input) :
    runOver (.answer (.err e) :: .engine :: rest) s =
      runOver rest
        (onRecv (s.settle (.recv m t) (.err e) (.answeredRecv (.err e) s.now k)) (.err e)
          s.now k) := by
  simp [runOver, engineEvent, State.answer, act, EState.running, h]

/-- Ticks move NOW and nothing else (R45). -/
theorem runOver_ticks {s : State} (h : s.estate.running = true) (n : Nat) (rest : List Input) :
    runOver (List.replicate n .tick ++ rest) s =
      runOver rest { s with now := s.now + BitVec.ofNat 32 n } := by
  induction n generalizing s with
  | zero => simp
  | succ n ih =>
    have hr : s.tick.estate.running = true := h
    simp only [List.replicate_succ, List.cons_append, runOver, h, if_true, engineEvent, ih hr]
    congr 1
    simp only [State.tick, State.mk.injEq, and_true, true_and]
    apply BitVec.eq_of_toNat_eq
    simp
    omega

/-- A sleep that begins now ends after n ticks, where n is at least its length (R46). -/
theorem runOver_slept {s : State} {d n : Nat} {k : SleepKont} (h : s.estate = .sleeping s.now d k)
    (hd : d ≤ n) (hn : n < 2 ^ 32) (rest : List Input) :
    runOver (List.replicate n .tick ++ .engine :: rest) s =
      runOver rest (wake { s with now := s.now + BitVec.ofNat 32 n } k) := by
  have hs : slept (s.now + BitVec.ofNat 32 n) s.now d = true := by
    simp only [slept, decide_eq_true_eq]
    have : s.now + BitVec.ofNat 32 n - s.now = BitVec.ofNat 32 n := by
      rw [BitVec.add_comm, BitVec.add_sub_cancel]
    rw [this, BitVec.toNat_ofNat, Nat.mod_eq_of_lt hn]
    exact hd
  rw [runOver_ticks (by simp [h, EState.running])]
  simp [runOver, engineEvent, act, EState.running, h, hs]

/-- A sleep that begins now goes on after n ticks, where n is less than its length (R46). -/
theorem runOver_asleep {s : State} {d n : Nat} {k : SleepKont} (h : s.estate = .sleeping s.now d k)
    (hd : n < d) (rest : List Input) :
    runOver (List.replicate n .tick ++ .engine :: rest) s =
      runOver rest { s with now := s.now + BitVec.ofNat 32 n } := by
  have hs : slept (s.now + BitVec.ofNat 32 n) s.now d = false := by
    simp only [slept, decide_eq_false_iff_not]
    have : s.now + BitVec.ofNat 32 n - s.now = BitVec.ofNat 32 n := by
      rw [BitVec.add_comm, BitVec.add_sub_cancel]
    rw [this, BitVec.toNat_ofNat]
    have := Nat.mod_le n (2 ^ 32)
    omega
  rw [runOver_ticks (by simp [h, EState.running])]
  simp [runOver, engineEvent, act, EState.running, h, hs]

end Sys2Proof.Machine
end

