-- ==== Sys2Proof/Laws/Framer.lean ====
section
/-! SUPPORT. What the receiving framers read of the state: the L0 flags and the parameters, and nothing
else, so that a decoding is the same before and after any other update. -/

namespace Sys2Proof.Machine

/-- The L0 flags decide whether a check byte is still there (R199, R210). -/
theorem checkLen_congr {s t : State} (hf : s.l0flags = t.l0flags) : s.checkLen = t.checkLen := by
  have h : s.l0Has .stripsL2Checksum = t.l0Has .stripsL2Checksum := congrArg (hasCap · _) hf
  unfold State.checkLen
  rw [h]

/-- The split length reads the L0 flags and the parameters (R200). -/
theorem frameLen9141_congr {s t : State} (hf : s.l0flags = t.l0flags) (hp : s.params = t.params) :
    frameLen9141 s = frameLen9141 t := by
  have h : s.l0Has .stripsL2Checksum = t.l0Has .stripsL2Checksum := congrArg (hasCap · _) hf
  funext p
  unfold frameLen9141
  rw [h, hp]

/-- One ISO9141 piece is checked by the L0 flags alone (R199). -/
theorem check9141_congr {s t : State} (hf : s.l0flags = t.l0flags) : check9141 s = check9141 t := by
  funext p ts
  unfold check9141
  rw [checkLen_congr hf]

/-- A piece is cut by the split length (R198). -/
theorem pieceLen_congr {s t : State} (hf : s.l0flags = t.l0flags) (hp : s.params = t.params) :
    pieceLen s = pieceLen t := by
  funext rest
  unfold pieceLen
  rw [frameLen9141_congr hf hp]

/-- One frame is split by the L0 flags and the parameters (R198). -/
theorem splitFrame_congr {s t : State} (hf : s.l0flags = t.l0flags) (hp : s.params = t.params) :
    splitFrame s = splitFrame t := by
  funext ts n
  induction n with
  | zero => rfl
  | succ n ih =>
    funext rest
    unfold splitFrame
    rw [pieceLen_congr hf hp, check9141_congr hf, ih]

/-- The ISO9141 decoder reads the L0 flags and the parameters (R198). -/
theorem decode9141_congr {s t : State} (hf : s.l0flags = t.l0flags) (hp : s.params = t.params) :
    decode9141 s = decode9141 t := by
  funext l
  induction l with
  | nil => rfl
  | cons f fs ih => simp only [decode9141, splitFrame_congr hf hp, ih]

/-- The J1850 decoder reads the L0 flags (R210). -/
theorem decode1850_congr {s t : State} (hf : s.l0flags = t.l0flags) : decode1850 s = decode1850 t := by
  funext l
  induction l with
  | nil => rfl
  | cons f fs ih =>
    unfold decode1850 check1850
    rw [checkLen_congr hf, ih]

end Sys2Proof.Machine
end

