-- ==== Sys2Proof/Laws/PerInstr.lean ====
section
/-! SUPPORT. Statements made per instruction. -/

namespace Sys2Proof.Laws.EncodeRow

/-- A well-formed command's word belongs to a row of spec/opcode_table.json that has the command's
mnemonic (R94, R100). -/
def Statement (i : Instr) : Prop :=
  i.wellFormed = true → ∃ r ∈ opcodeTable, r.mnemonic = i.mnemonic ∧ r.holds (encode i) = true

theorem nop : Statement .nop := fun _ => ⟨opcodeTable[0], by decide, by decide, by decide⟩

theorem cksInit : Statement .cksInit := fun _ => ⟨opcodeTable[1], by decide, by decide, by decide⟩

theorem cksAdd (b : Nat) : Statement (.cksAdd b) := by
  intro _
  refine ⟨opcodeTable[2], by decide, rfl, ?_⟩
  have h : ∀ x : Byte, opcodeTable[2].holds
      ((x.zeroExtend 32 <<< 8) ||| (Instr.opcode (.cksAdd 0)).zeroExtend 32) = true := by decide +kernel
  exact h (BitVec.ofNat 8 b)

theorem cksBuf : Statement .cksBuf := fun _ => ⟨opcodeTable[3], by decide, by decide, by decide⟩

theorem cksCheck : Statement .cksCheck := fun _ => ⟨opcodeTable[4], by decide, by decide, by decide⟩

theorem crcInit : Statement .crcInit := fun _ => ⟨opcodeTable[5], by decide, by decide, by decide⟩

theorem crcAdd (b : Nat) : Statement (.crcAdd b) := by
  intro _
  refine ⟨opcodeTable[6], by decide, rfl, ?_⟩
  have h : ∀ x : Byte, opcodeTable[6].holds
      ((x.zeroExtend 32 <<< 8) ||| (Instr.opcode (.crcAdd 0)).zeroExtend 32) = true := by decide +kernel
  exact h (BitVec.ofNat 8 b)

theorem crcBuf : Statement .crcBuf := fun _ => ⟨opcodeTable[7], by decide, by decide, by decide⟩

theorem crcCheck : Statement .crcCheck := fun _ => ⟨opcodeTable[8], by decide, by decide, by decide⟩

theorem start : Statement .start := fun _ => ⟨opcodeTable[9], by decide, by decide, by decide⟩

theorem stop : Statement .stop := fun _ => ⟨opcodeTable[10], by decide, by decide, by decide⟩

theorem send : Statement .send := fun _ => ⟨opcodeTable[11], by decide, by decide, by decide⟩

theorem recv : Statement .recv := fun _ => ⟨opcodeTable[12], by decide, by decide, by decide⟩

theorem request : Statement .request := fun _ => ⟨opcodeTable[13], by decide, by decide, by decide⟩

theorem msgPop : Statement .msgPop := fun _ => ⟨opcodeTable[14], by decide, by decide, by decide⟩

theorem l3Start : Statement .l3Start := fun _ => ⟨opcodeTable[15], by decide, by decide, by decide⟩

theorem l3Stop : Statement .l3Stop := fun _ => ⟨opcodeTable[16], by decide, by decide, by decide⟩

theorem l3Send : Statement .l3Send := fun _ => ⟨opcodeTable[17], by decide, by decide, by decide⟩

theorem l3Recv : Statement .l3Recv := fun _ => ⟨opcodeTable[18], by decide, by decide, by decide⟩

theorem l3Keepalive : Statement .l3Keepalive := fun _ => ⟨opcodeTable[19], by decide, by decide, by decide⟩

end Sys2Proof.Laws.EncodeRow
end

