-- ==== Sys2Proof/Laws/Step.lean ====
section
/-! SUPPORT. What one step does, by the fault state and the next event: a claim about `step` cites these
and does not unfold it. -/

namespace Sys2Proof.Machine

@[simp] theorem stopAt_next (s t : State) : s.stopAt (.next t) = .next t := rfl
@[simp] theorem stopAt_fault (s : State) (f : Fault) :
    s.stopAt (.fault f) = .next { s with modelFault := some f } := rfl
@[simp] theorem stopAt_refused (s : State) (r : Refusal) : s.stopAt (.refused r) = .refused r := rfl

/-- A stopped model drops every event but the reset input (R300). -/
theorem whileStopped_eq {ev : Input} (h : ev ≠ .reset) (s : State) : s.whileStopped ev = s := by
  cases ev <;> first | rfl | exact absurd rfl h

/-- While the rules of the block apply, a step is its next event, a violation stopping the model (R300). -/
theorem step_event {s : State} {ev : Input} {rest : List Input} (hf : s.modelFault = none)
    (h : s.inputs = ev :: rest) :
    step s = State.stopAt { s with inputs := rest } (onEvent { s with inputs := rest } ev) := by
  simp only [step, hf, h]

/-- With no event to come nothing changes. -/
theorem step_no_event {s : State} (hf : s.modelFault = none) (h : s.inputs = []) :
    step s = .next s := by
  simp only [step, hf, h]

/-- A stopped model takes the reset input and drops every other event (R300). -/
theorem step_stopped {s : State} {f : Fault} {ev : Input} {rest : List Input}
    (hf : s.modelFault = some f) (h : s.inputs = ev :: rest) :
    step s = .next (State.whileStopped { s with inputs := rest } ev) := by
  simp only [step, hf, h]

/-- A stopped model with no event to come ends in its fault (R300). -/
theorem step_ends {s : State} {f : Fault} (hf : s.modelFault = some f) (h : s.inputs = []) :
    step s = .fault f := by
  simp only [step, hf, h]

/-- The reset input is taken in every state, the fault state among them (R64, R300). -/
theorem step_reset {s : State} {rest : List Input} (h : s.inputs = .reset :: rest) :
    step s = .next (State.resetBlock { s with inputs := rest }) := by
  cases hf : s.modelFault with
  | none => rw [step_event hf h]; rfl
  | some f => rw [step_stopped hf h]; rfl

/-- Where a step leads: an event's next state, the fault state at a violation, a stopped model's next
state, or where it was (R300). -/
theorem step_cases {s t : State} (h : step s = .next t) :
    (s.modelFault = none ∧ s.inputs = [] ∧ t = s) ∨
    (∃ ev rest, s.modelFault = none ∧ s.inputs = ev :: rest ∧
      (onEvent { s with inputs := rest } ev = .next t ∨
        ∃ f, onEvent { s with inputs := rest } ev = .fault f ∧
          t = { s with inputs := rest, modelFault := some f })) ∨
    ∃ f ev rest, s.modelFault = some f ∧ s.inputs = ev :: rest ∧
      t = State.whileStopped { s with inputs := rest } ev := by
  obtain hf | ⟨f, hf⟩ : s.modelFault = none ∨ ∃ f, s.modelFault = some f := by
    cases s.modelFault <;> simp
  · obtain hi | ⟨ev, rest, hi⟩ : s.inputs = [] ∨ ∃ ev rest, s.inputs = ev :: rest := by
      cases s.inputs <;> simp
    · rw [step_no_event hf hi] at h
      cases h
      exact .inl ⟨hf, hi, rfl⟩
    · rw [step_event hf hi] at h
      refine .inr (.inl ⟨ev, rest, hf, hi, ?_⟩)
      generalize onEvent _ ev = o at h ⊢
      cases o with
      | next u => exact .inl h
      | fault f => cases h; exact .inr ⟨f, rfl, rfl⟩
      | refused r => cases h
  · obtain hi | ⟨ev, rest, hi⟩ : s.inputs = [] ∨ ∃ ev rest, s.inputs = ev :: rest := by
      cases s.inputs <;> simp
    · rw [step_ends hf hi] at h
      cases h
    · rw [step_stopped hf hi] at h
      cases h
      exact .inr (.inr ⟨f, ev, rest, hf, hi, rfl⟩)

end Sys2Proof.Machine
end

