-- ==== Sys2Proof/Tests/Slice0.lean ====
section
/-! SUPPORT. Tests: what WellFormed refuses, the command words of spec/30_encoding.md and
spec/95_test_vectors.md, one or two vectors of spec/95_test_vectors.md for each command, and a witness
for the hypotheses of each statement, at the boundary values of its clauses. -/

namespace Sys2Proof.Tests

open Sys2Proof Sys2Proof.Machine Sys2Proof.Claims

-- One theorem after another: the threads of so many small evaluations would not fit in memory.
set_option Elab.async false

/-! ### WellFormed -/

theorem test_wellFormed_refuses_cksAdd_256 : (Instr.cksAdd 256).wellFormed = false := by decide
theorem test_wellFormed_refuses_crcAdd_256 : (Instr.crcAdd 256).wellFormed = false := by decide
theorem test_wellFormed_cksAdd_255 : (Instr.cksAdd 255).wellFormed = true := by decide
theorem test_wellFormed_crcAdd_255 : (Instr.crcAdd 255).wellFormed = true := by decide

/-! ### Command words, written out from R90, R91 and R93 -/

theorem test_word_nop : decode 0x00000000 = .ok .nop := by decide
theorem test_word_cksInit : decode 0x00000001 = .ok .cksInit := by decide
theorem test_word_cksAdd : decode 0x00004802 = .ok (.cksAdd 0x48) := by decide
theorem test_word_cksBuf : decode 0x00000003 = .ok .cksBuf := by decide
theorem test_word_cksCheck : decode 0x00000004 = .ok .cksCheck := by decide
theorem test_word_crcInit : decode 0x00000008 = .ok .crcInit := by decide
theorem test_word_crcAdd : decode 0x0000FF09 = .ok (.crcAdd 0xFF) := by decide
theorem test_word_crcBuf : decode 0x0000000A = .ok .crcBuf := by decide
theorem test_word_crcCheck : decode 0x0000000B = .ok .crcCheck := by decide
theorem test_word_start : decode 0x00000010 = .ok .start := by decide
theorem test_word_stop : decode 0x00000011 = .ok .stop := by decide
theorem test_word_send : decode 0x00000012 = .ok .send := by decide
theorem test_word_recv : decode 0x00000013 = .ok .recv := by decide
theorem test_word_request : decode 0x00000014 = .ok .request := by decide
theorem test_word_msgPop : decode 0x00000015 = .ok .msgPop := by decide
theorem test_word_l3Start : decode 0x00000018 = .ok .l3Start := by decide
theorem test_word_l3Stop : decode 0x00000019 = .ok .l3Stop := by decide
theorem test_word_l3Send : decode 0x0000001A = .ok .l3Send := by decide
theorem test_word_l3Recv : decode 0x0000001B = .ok .l3Recv := by decide
theorem test_word_l3Keepalive : decode 0x0000001C = .ok .l3Keepalive := by decide

/-- V-ENC: the words that are no command. -/
theorem test_words_refused :
    decode 0x00004801 = .error .operandInC0 ∧ decode 0x0000011C = .error .operandInC0 ∧
    decode 0x00010001 = .error .reservedBits ∧ decode 0x80000012 = .error .reservedBits ∧
    decode 0x00000005 = .error .unassignedOpcode ∧ decode 0x00000016 = .error .unassignedOpcode ∧
    decode 0x0000001D = .error .unassignedOpcode ∧ decode 0x000000FF = .error .unassignedOpcode := by
  decide

/-! ### Small states -/

/-- Parameters for the tests; the spec leaves each of these OPEN. -/
def params : Params where
  blockBase := 0x1000
  w2max := 20
  w3max := 20
  w4min := 1
  w4max := 50
  tIdle5baud := 2
  tIdleFast := 1
  timing9141 := ⟨20, 30, 55, 1⟩
  timing14230 := ⟨20, 30, 55, 1⟩
  timing1850 := ⟨20, 30, 55, 1⟩
  timingRaw := ⟨20, 30, 55, 1⟩
  timingVag := ⟨20, 30, 55, 1⟩
  p3Ext := 10
  j1850MaxPayload := 8
  respTable := []
  splitRule := .inferred
  badData := .keep

/-- After reset, with CONFIG, ADDR = F133, TIMEOUT = 1000 and the events to come. -/
def down (config : BitVec 6) (evs : List Input) : State :=
  { State.reset with
    params := params
    config := config
    addr := 0xF133
    timeout := 1000
    inputs := evs }

/-- A link that is UP, with L0FLAGS, the merged FLAGS, and ADDR = F16A. -/
def up (config : BitVec 6) (l0 merged : BitVec 9) (evs : List Input) : State :=
  { down config evs with
    link := .up
    addr := 0xF16A
    l0flags := l0
    flags := merged
    tp1max := 20
    tp2min := 25
    tp3min := 55
    tp4min := 1 }

/-- The same inside an L3 session. -/
def session (config : BitVec 6) (l0 merged : BitVec 9) (evs : List Input) : State :=
  { up config l0 merged evs with l3active := true }

/-- s with bytes loaded into TXBUF, and TXLEN. -/
def tx (s : State) (bs : List Byte) : State :=
  { s with txlen := BitVec.ofNat 8 bs.length, txbuf := bs.zipIdx.map fun (b, i) => (i, b) }

/-- s with n messages in MSGQ. -/
def queued (s : State) (n : Nat) : State :=
  { s with msgq := List.replicate n ⟨[0x41], 0x10, 0x6B, 0x7, 0⟩ }

/-- A view of the next state, `none` for a fault or a refusal. -/
def seen {α : Type} (o : Host.Outcome State Fault Refusal) (f : State → α) : Option α :=
  match o with
  | .next t => some (f t)
  | _ => none

/-- The ISO9141 response of V-E2E. -/
def e2e : List Byte := [0x48, 0x6B, 0x01, 0x02, 0x03, 0xB9]
/-- The first frame of S6. -/
def resp10 : List Byte := [0x48, 0x6B, 0x10, 0x41, 0x00, 0xBE, 0x1F, 0xA8, 0x13, 0x9C]
/-- The second frame of S6. -/
def resp18 : List Byte := [0x48, 0x6B, 0x18, 0x41, 0x00, 0x80, 0x00, 0x00, 0x00, 0x8C]
/-- The ISO9141 request `01 00` (S8). -/
def req0100 : List Byte := [0x68, 0x6A, 0xF1, 0x01, 0x00, 0xC4]

/-! ### One or two vectors for each command -/

/-- V-ENC: NOP leaves VERIFY. -/
theorem test_nop : seen (exec .nop { down 0 [] with verify := true, err := .badData })
    (fun t => (t.verify, t.err)) = some (true, .ok) := by decide +kernel

/-- V-ENC. -/
theorem test_cksInit : seen (exec .cksInit { down 0 [] with cksum := 0x48 }) (·.cksum) =
    some 0x00 := by decide +kernel
/-- V-CKS: from B3, CKS_ADD 6B gives 1E. -/
theorem test_cksAdd : seen (exec (.cksAdd 0x6B) { down 0 [] with cksum := 0xB3 }) (·.cksum) =
    some 0x1E := by decide +kernel
/-- P1 step 5: CKSUM B3 and the bytes 01 02 03 give B9. -/
theorem test_cksBuf : seen (exec .cksBuf { tx (down 0 []) [1, 2, 3] with cksum := 0xB3 }) (·.cksum) =
    some 0xB9 := by decide +kernel
/-- V-CKS: TXBUF[2] was never written. -/
theorem test_cksBuf_unwritten : exec .cksBuf { tx (down 0 []) [1, 2] with txlen := 3 } =
    .fault .unwrittenTxbuf := rfl
/-- V-CKS. -/
theorem test_cksCheck : seen (exec .cksCheck (tx (down 0 []) e2e)) (·.verify) = some true := by
  decide +kernel
/-- V-CKS: TXLEN 0 gives 0. -/
theorem test_cksCheck_empty : seen (exec .cksCheck { down 0 [] with verify := true }) (·.verify) =
    some false := by decide +kernel
/-- P1 step 9. -/
theorem test_crcInit : seen (exec .crcInit { down 0 [] with crcreg := 0x08 }) (·.crcreg) =
    some 0xFF := by decide +kernel
/-- V-CRC: 68 from FF gives B8. -/
theorem test_crcAdd : seen (exec (.crcAdd 0x68) (down 0 [])) (·.crcreg) = some 0xB8 := by
  decide +kernel
/-- P1 step 13: 01 from 6D gives 08. -/
theorem test_crcAdd_chain : seen (exec (.crcAdd 0x01) { down 0 [] with crcreg := 0x6D }) (·.crcreg) =
    some 0x08 := by decide +kernel
/-- V-CRC: the register of 68 6A F1 01 00 is E8. -/
theorem test_crcBuf : seen (exec .crcBuf (tx (down 0 []) [0x68, 0x6A, 0xF1, 0x01, 0x00])) (·.crcreg) =
    some 0xE8 := by decide +kernel
/-- V-CRC: TXLEN 65. -/
theorem test_crcBuf_long : seen (exec .crcBuf { down 0 [] with txlen := 65 })
    (fun t => (t.crcreg, t.err)) = some (0xFF, .badLength) := by decide +kernel
/-- V-CRC, CRC_CHECK of the J1850 frame of S8. -/
theorem test_crcCheck : seen (exec .crcCheck (tx (down 0 []) [0x68, 0x6A, 0xF1, 0x01, 0x00, 0x17]))
    (fun t => (t.verify, t.crcreg)) = some (true, 0xFF) := by decide +kernel
/-- V-CRC: 18 is not the CRC. -/
theorem test_crcCheck_wrong :
    seen (exec .crcCheck (tx (down 0 []) [0x68, 0x6A, 0xF1, 0x01, 0x00, 0x18])) (·.verify) =
    some false := by decide +kernel

/-- V-START, row 1: LINK UP, KEYBYTES 0808, TP2MIN 25, FLAGS 01F, and F7 sent. -/
theorem test_start_5baud :
    seen (exec .start (down 0x08 (keyByteScript 0x018 2 0x08 0x08 ++ waited 1 ++ acked ++ got [0xCC])))
      (fun t => (t.link, t.keybytes, t.tp2min, t.flags, t.history[6]?)) =
    some (.up, 0x0808, 25, 0x01F, some (okEvent (.send [0xF7]))) := by decide +kernel
/-- V-START, row 3: WrongKeyBytes with KEYBYTES 9408. -/
theorem test_start_wrongKeyBytes :
    seen (exec .start (down 0x08 (keyByteScript 0x018 2 0x08 0x94)))
      (fun t => (t.link, t.err, t.keybytes)) = some (.down, .wrongKeyBytes, 0x9408) := by
  decide +kernel
/-- P2, after STOP: FLAGS and TP2MIN are kept. -/
theorem test_stop : seen (exec .stop { up 0x08 0x018 0x01F [] with lasttx := some req0100 })
    (fun t => (t.link, t.lasttx, t.flags, t.tp2min)) = some (.down, none, 0x01F, 25) := by
  decide +kernel

/-- V-SEND: byte by byte, the third byte answered IOError. -/
theorem test_send_bytewise :
    seen (exec .send (tx (up 0x08 0x010 0x017
        (acked ++ waited 1 ++ acked ++ waited 1 ++ gotErr .ioError)) [0x01, 0x00]))
      (fun t => (t.err, t.lasttx, t.history)) =
    some (.ioError, none, [okEvent (.send [0x68]), okEvent (.send [0x6A]),
      errEvent (.send [0xF1]) .ioError]) := by decide +kernel
/-- V-SEND: J1850 PWM. -/
theorem test_send_pwm :
    seen (exec .send (tx (up 0x22 0x001 0x007 acked) [0x01, 0x00])) (·.lasttx) =
    some (some [0x61, 0x6A, 0xF1, 0x01, 0x00, 0x0A]) := by decide +kernel
/-- S6: one ISO9141 frame of two messages. -/
theorem test_recv_split :
    seen (exec .recv (up 0x08 0x018 0x01F
        (got (resp10 ++ resp18) ++ gotErr .timeout ++ gotErr .timeout)))
      (fun t => t.msgq.map fun m => (m.src, m.data)) =
    some [(0x10, [0x41, 0x00, 0xBE, 0x1F, 0xA8, 0x13]),
      (0x18, [0x41, 0x00, 0x80, 0x00, 0x00, 0x00])] := by decide +kernel
/-- V-J1850: the frame before the contention is discarded. -/
theorem test_recv_contention :
    seen (exec .recv { up 0x02 0x001 0x007
        (got [0x48, 0x6B, 0x10, 0x41, 0x00, 0xBE, 0x1F, 0xA8, 0x13, 0xCB] ++ gotErr .busError ++
          acked ++ got [0x48, 0x6B, 0x18, 0x41, 0x00, 0x80, 0x00, 0x00, 0x00, 0x11] ++
          gotErr .timeout) with lasttx := some [0x68, 0x6A, 0xF1, 0x01, 0x00, 0x17] })
      (fun t => (t.msgq.map (·.src), t.retries, t.err)) = some ([0x18], 1, .ok) := by decide +kernel
/-- V-REQ: the exchange of rule R215's example. -/
theorem test_request :
    seen (exec .request (tx (up 0x08 0x018 0x01F
        (acked ++ got resp10 ++ gotErr .timeout ++ gotErr .timeout)) [0x01, 0x00]))
      (fun t => (t.lasttx, t.msgq.map (·.data))) =
    some (some req0100, [[0x41, 0x00, 0xBE, 0x1F, 0xA8, 0x13]]) := by decide +kernel
/-- V-REQ: a time-out of the receive. -/
theorem test_request_timeout :
    seen (exec .request (tx (up 0x08 0x018 0x01F (acked ++ gotErr .timeout)) [0x01, 0x00]))
      (fun t => (t.lasttx, t.err)) = some (some req0100, .timeout) := by decide +kernel
/-- V-REQ: MSGCNT 2 becomes 1. -/
theorem test_msgPop : seen (exec .msgPop (queued (down 0 []) 2)) (·.msgq.length) = some 1 := by
  decide +kernel

/-- P3: L3_START. -/
theorem test_l3Start : seen (exec .l3Start { up 0x03 0 0 [] with now := 7 })
    (fun t => (t.l3stat, t.l3idle)) = some (0x0001, 7) := by decide +kernel
/-- P3: L3_STOP empties L3BUF. -/
theorem test_l3Stop : seen (exec .l3Stop { session 0x03 0 0 [] with l3buf := e2e }) (·.l3stat) =
    some 0 := by decide +kernel
/-- V-L3: L3_SEND on ISO9141 sends the frame and sets L3IDLE. -/
theorem test_l3Send :
    seen (exec .l3Send { tx (session 0x08 0x018 0x01F acked) [0x01, 0x00] with now := 9 })
      (fun t => (t.lasttx, t.l3idle)) = some (some req0100, 9) := by decide +kernel
/-- V-L3: the message produced in L3_DRAIN. -/
theorem test_l3Recv_drain :
    seen (exec .l3Recv (session 0x03 0 0 (gotErr .timeout ++ got [0x68, 0x6A, 0xF1, 0x01] ++
        got [0x00, 0xC4] ++ gotErr .timeout)))
      (fun t => (t.err, t.msgq.map (·.data), t.history[2]?)) =
    some (.ok, [req0100], some (dataEvent 60 5 [0x00, 0xC4])) := by decide +kernel
/-- V-L3: a message, then BadData, under keep. -/
theorem test_l3Recv_badData :
    seen (exec .l3Recv (session 0x03 0 0 (got (req0100 ++ [0x48, 0x6B, 0x10, 0x41, 0x02, 0x00]))))
      (fun t => (t.err, t.msgq.map (·.data), t.l3buf.length)) =
    some (.badData, [req0100, []], 6) := by decide +kernel
/-- V-KA: 3501 ms idle on ISO9141. -/
theorem test_keepalive :
    seen (exec .l3Keepalive { session 0x08 0x018 0x01F
        (acked ++ got resp10 ++ gotErr .timeout ++ gotErr .timeout) with now := 3501 })
      (fun t => (t.err, t.lasttx, t.l3idle, t.msgq)) = some (.ok, some req0100, 3501, []) := by
  decide +kernel
/-- V-KA: 3500 ms idle. -/
theorem test_keepalive_early :
    seen (exec .l3Keepalive { session 0x08 0x018 0x01F acked with now := 3500 })
      (fun t => (t.err, t.history, t.l3idle)) = some (.ok, [], 0) := by decide +kernel

/-- V-ERR: reset while RECV waits. -/
theorem test_reset_while_recv :
    seen (step { up 0x03 0 0 [.reset] with
        busy := true, arb := .rx, estate := .awaitRecv 64 1000 (.rxRaw .recv) })
      (fun t => (t.status, t.crcreg, t.link, (t.answer (.data [1])).estate)) =
    some (0, 0xFF, .down, .idle) := by decide +kernel
/-- V-ERR: a misaligned read at 0x002, and CONFIG ignored while the link is UP. -/
theorem test_host_accesses :
    seen (step (reading (down 0 []) 0x002 [])) (·.modelFault) = some (some .badHostAccess) ∧
    seen (step (writing (up 0x03 0 0 []) 0x008 0x02 [])) (·.config) = some 0x03 := by decide +kernel

/-! ### Witnesses: what the hypotheses of each statement are met by -/

/-- A view that is true of the next state shows a next state of which it is true. -/
theorem of_seen {o : Host.Outcome State Fault Refusal} {f : State → Bool}
    (h : seen o f = some true) : ∃ t, o = .next t ∧ f t = true := by
  cases o with
  | next t => exact ⟨t, rfl, by simpa [seen] using h⟩
  | fault _ => simp [seen] at h
  | refused _ => simp [seen] at h

/-- s with a command word pending and the engine about to act. -/
def pending (s : State) (w : Word) : State :=
  { s with busy := true, estate := .decode w, inputs := [.engine] }

/-- s with a link of another kind. -/
def linked (s : State) (l : Link) : State := { s with link := l }

/-- n bytes. -/
def bytes (n : Nat) : List Byte := List.replicate n 0x41

theorem witness_DecodeEncodeRoundTrip :
    (Instr.crcAdd 0).wellFormed = true ∧ (Instr.crcAdd 255).wellFormed = true ∧
    decode 0x0000FF02 = .ok (.cksAdd 255) := by decide

theorem witness_DecodingRule :
    ([0x05, 0x17, 0x1D, 0xFF, 0x00010000, 0x00000100].all fun (w : Word) =>
      (pending (down 0 []) w).modelFault = none ∧ (pending (down 0 []) w).estate = .decode w ∧ (decode w).toOption = none ∧
      (pending (down 0 []) w).inputs = [.engine]) = true ∧
    ([0x00, 0x04, 0x15, 0x18, 0x1C, 0x0000FF09].all fun (w : Word) =>
      (decode w).toOption ≠ none) = true := by decide +kernel

/-- A command that ends, and one that stops the model. -/
theorem witness_StepRunsDecodedCommand :
    (pending (down 0 []) 0x00004802).modelFault = none ∧
    (pending (down 0 []) 0x00004802).estate = .decode 0x00004802 ∧
    decode 0x00004802 = .ok (.cksAdd 0x48) ∧
    (pending (down 0 []) 0x00004802).inputs = [.engine] ∧
    seen (step (pending { down 0 [] with txlen := 1 } 0x00000003)) (·.modelFault) =
      some (some .unwrittenTxbuf) := by decide +kernel

/-- A RECV on a RAW link that waits, its answer to come. -/
def waiting : State :=
  { queued (up 0x03 0 0 [.answer (.data [0x41]), .engine]) 15 with
    busy := true
    arb := .rx
    estate := .awaitRecv 64 1000 (.rxRaw .recv) }

theorem witness_CommandRunIsItsSteps :
    waiting.modelFault = none ∧ waiting.estate.running = true := by decide

theorem witness_CmdWriteStartsCommand :
    Ready (down 0 []) ∧ waiting.modelFault = none ∧ waiting.busy = true := by decide

theorem witness_IllegalAccessFaults :
    (down 0 []).modelFault = none ∧ waiting.modelFault = none ∧ Legal 0 ∧ Legal 1020 ∧
    ¬Legal 1024 ∧ ¬Legal 1022 ∧ ¬Legal 2 ∧
    (down 0 []).offset (0x1000 + 1020) 4 = some 1020 ∧ (down 0 []).offset (0x1000 + 1020) 2 = none ∧
    (down 0 []).offset 0xFFC 4 = none ∧ waiting.offset 0x1400 4 = none := by decide

theorem witness_AccessesWhileBusy :
    waiting.modelFault = none ∧ waiting.busy = true ∧
    Legal 0x004 ∧ Legal 0x058 ∧ Legal 0x000 ∧ Legal 0x3FC := by decide

theorem witness_ReadOnlyAndUnmapped :
    Ready (down 0 []) ∧
    (∀ off ∈ [0x068, 0x0FC], Legal off ∧ off < 0x100 ∧ off ∉ roOffsets ∧ off ∉ writableOffsets) ∧
    ∀ off ∈ [0x004, 0x064, 0x200, 0x3FC], Legal off ∧ (off ∈ roOffsets ∨ 0x200 ≤ off) := by decide

theorem witness_ConfigurationWrites :
    Ready (down 0 []) ∧ (down 0 []).link = .down ∧ Ready (up 0 0 0 []) ∧
    (up 0 0 0 []).link ≠ .down ∧ (linked (down 0x11 []) .fastPending).link ≠ .down := by decide

theorem witness_TxbufReadAfterWrite :
    Ready (tx (down 0 []) (bytes 64)) ∧ Ready (down 0 []) ∧
    (∃ t, step (writing (tx (down 0 []) (bytes 64)) (0x100 + 4 * 63) 0x1FF []) = .next t ∧
      decide (t.txbuf.read 0 = some 0x41) = true) ∧
    ∃ t, step (writing (down 0 []) (0x100 + 4 * 0) 0x1FF []) = .next t ∧
      decide (t.txbuf.read 0 = some 0xFF) = true :=
  ⟨by decide, by decide, of_seen (by decide +kernel), of_seen (by decide +kernel)⟩

theorem witness_HeadMessageView :
    Ready (down 0 []) ∧ (down 0 []).msgq = [] ∧
    ({ down 0 [] with msgq := [⟨[], 0, 0, 0, 0⟩] } : State).msgq = [⟨[], 0, 0, 0, 0⟩] ∧
    ({ down 0 [] with msgq := [⟨bytes 64, 1, 2, 7, 3⟩] } : State).msgq = [⟨bytes 64, 1, 2, 7, 3⟩] ∧
    (bytes 64).length ≤ 64 := by decide +kernel

/-- An empty queue and a full one, an empty L3BUF and a full one, and the words read there. -/
theorem witness_StatusWordFields :
    let s := { queued (session 0x08 0x018 0x01F []) 16 with l3buf := bytes 64, crcreg := 0x17 }
    Ready (down 0 []) ∧ Ready s ∧ s.msgq.length ≤ 16 ∧ s.l3buf.length ≤ 64 ∧
    seen (step (reading s 0x044 [])) (·.readData) = some 16 ∧
    seen (step (reading s 0x05C [])) (·.readData) = some 0x4001 ∧
    seen (step (reading s 0x03C [])) (·.readData) = some 0xE8 := by decide +kernel

theorem witness_NowCountsTicks :
    (down 0 [.tick]).modelFault = none ∧ (down 0 [.tick]).inputs = [.tick] ∧
    ∃ t, exec .start (down 0x03 (.tick :: acked ++ gotFlags 0)) = .next t ∧
      decide (t.now = 1) = true :=
  ⟨rfl, rfl, of_seen (by decide +kernel)⟩

theorem witness_SleepHoldsTheEngine :
    let s := { down 0 [.engine] with now := 1, estate := .sleeping 0xFFFFFFFE 4 .fIdle }
    s.modelFault = none ∧ s.estate = .sleeping 0xFFFFFFFE 4 .fIdle ∧ s.inputs = [.engine] ∧
    (s.now - 0xFFFFFFFE).toNat < 4 ∧ 4 ≤ (s.tick.now - 0xFFFFFFFE).toNat := by decide +kernel

/-- A reset while an operation is in flight, and one while the model is stopped. -/
theorem witness_ResetSequence :
    ({ waiting with inputs := [.reset] } : State).inputs = [.reset] ∧
    waiting.estate.inFlight ≠ none ∧
    seen (step { waiting with modelFault := some .writeWhileBusy, inputs := [.reset] })
      (fun t => (t.modelFault, t.status)) = some (none, 0) := by decide +kernel

theorem witness_ChecksumLaws :
    [(0x01 : Byte), 0x02].Perm [0x02, 0x01] ∧
    (∀ i ∈ [0, 5], i < ([0x48, 0x6B, 0x01, 0x02, 0x03] ++
        [checksum [0x48, 0x6B, 0x01, 0x02, 0x03]]).length) ∧
    ([0x48, 0x6B, 0x01, 0x02, 0x03] ++ [checksum [0x48, 0x6B, 0x01, 0x02, 0x03]])[5]? ≠
      some 0xBA := by decide +kernel

theorem witness_CrcLaws :
    (∀ i ∈ [0, 3], i < ([0x68, 0x6A, 0xF1] ++ [crc8 [0x68, 0x6A, 0xF1]]).length) ∧
    ([0x68, 0x6A, 0xF1] ++ [crc8 [0x68, 0x6A, 0xF1]])[3]? ≠ some 0x93 := by decide +kernel

theorem witness_BufferCommands :
    TxHolds (tx (down 0 []) []) [] ∧ TxHolds (tx (down 0 []) (bytes 64)) (bytes 64) ∧
    64 < ({ down 0 [] with txlen := 65 } : State).txlen.toNat := by decide +kernel

theorem witness_CheckCommands :
    TxHolds (tx (down 0 []) e2e) e2e ∧ TxHolds (tx (down 0 []) (bytes 64)) (bytes 64) ∧
    64 < ({ down 0 [] with txlen := 255 } : State).txlen.toNat := by decide +kernel

theorem witness_UnwrittenEntryFaults :
    ∀ s ∈ [{ tx (session 0x03 0 0 []) (bytes 63) with txlen := 64 },
        { tx (linked (down 0x11 []) .fastPending) (bytes 63) with txlen := 64 }],
      s.txlen.toNat ≤ 64 ∧ 63 < s.txlen.toNat ∧ s.txbuf.read 63 = none ∧
      (s.link = .fastPending ∨ (s.link = .up ∧ s.l3active = true ∧ s.proto ≠ some .vag)) := by
  decide +kernel

/-- TXLEN one above TXCAP. -/
theorem witness_UnwrittenEntryFaults_tooLong :
    ∀ s ∈ [{ session 0x03 0 0 [] with txlen := 65 },
        { linked (down 0x11 []) .fastPending with txlen := 65 }],
      64 < s.txlen.toNat ∧
      (s.link = .fastPending ∨ (s.link = .up ∧ s.l3active = true ∧ s.proto ≠ some .vag)) := by
  decide +kernel

/-- A stopped model, with an event to come and with none. -/
theorem witness_UnwrittenEntryFaults_stopped :
    let s := { waiting with modelFault := some .writeWhileBusy }
    s.modelFault = some .writeWhileBusy ∧ s.inputs = [.answer (.data [0x41]), .engine] ∧
    ({ s with inputs := [] } : State).modelFault = some .writeWhileBusy := by decide

theorem witness_IllegalOutOfState :
    (down 0 []).link = .down ∧ (linked (down 0x11 []) .fastPending).link ≠ .up ∧
    (up 0x03 0 0 []).link ≠ .down ∧ (session 0x03 0 0 []).l3active = true ∧
    (down 0 []).l3active = false ∧
    ∃ t, exec .msgPop (down 0 []) = .next t ∧ decide (t.err = .ok) = true :=
  ⟨rfl, by decide, by decide, rfl, rfl, of_seen (by decide +kernel)⟩

theorem witness_StopReleasesTheLink :
    (up 0x03 0 0 []).l3active = false ∧ (session 0x03 0 0 []).l3active = true := by decide

/-- Every illegal kind of pair, and every legal pair. -/
theorem witness_StartRefusals_pairs :
    (∀ c ∈ [(0x00 : BitVec 6), 0x10, 0x18, 0x1A, 0x1B, 0x01, 0x04, 0x14, 0x05, 0x0F],
      (down c []).link = .down ∧ ¬LegalPair (down c [])) ∧
    ∀ c ∈ [(0x08 : BitVec 6), 0x09, 0x11, 0x0C, 0x02, 0x0A, 0x12, 0x03, 0x0B, 0x13],
      (down c []).link = .down ∧ LegalPair (down c []) := by decide +kernel

theorem witness_StartRefusals_missing_slow :
    (down 0x08 (acked ++ gotFlags 0x008)).link = .down ∧
    (down 0x08 (acked ++ gotFlags 0x008)).proto = some .iso9141 ∧
    (∃ v, SlowVariant .iso9141 v) ∧ (down 0x08 (acked ++ gotFlags 0x008)).initMode = 1 ∧
    hasCap 0x008 .slow = false ∧
    (down 0x08 (acked ++ gotFlags 0x008)).inputs = acked ++ gotFlags 0x008 ++ [] :=
  ⟨rfl, rfl, ⟨_, .iso9141⟩, rfl, rfl, rfl⟩

theorem witness_StartRefusals_missing_fast :
    (down 0x11 (acked ++ gotFlags 0x010)).link = .down ∧
    (down 0x11 (acked ++ gotFlags 0x010)).proto = some .iso14230 ∧
    (down 0x11 (acked ++ gotFlags 0x010)).initMode = 2 ∧ hasCap 0x010 .fast = false ∧
    (down 0x11 (acked ++ gotFlags 0x010)).inputs = acked ++ gotFlags 0x010 ++ [] := by
  decide +kernel

theorem witness_StartWithoutInit :
    ∀ c ∈ [((0x12 : BitVec 6), Proto.j1850), (0x02, .j1850), (0x03, .raw), (0x13, .raw)],
      (down c.1 (acked ++ gotFlags 0x001)).link = .down ∧
      (down c.1 (acked ++ gotFlags 0x001)).proto = some c.2 ∧
      (down c.1 (acked ++ gotFlags 0x001)).initMode ≠ 3 ∧
      (down c.1 (acked ++ gotFlags 0x001)).inputs = acked ++ gotFlags 0x001 ++ [] := by
  decide +kernel

/-- V-START rows 1, 2, 11 and 12: each protocol that has a 5-baud init, with accepted key bytes. -/
theorem witness_StartFiveBaud :
    (SlowVariant .iso9141 .v9141 ∧ SlowVariant .iso14230 .v14230 ∧ SlowVariant .vag .vvag) ∧
    ∀ r ∈ [((0x08 : BitVec 6), Proto.iso9141, KeyVariant.v9141, (0x08 : Byte), (0x08 : Byte)),
        (0x08, .iso9141, .v9141, 0x94, 0x94), (0x09, .iso14230, .v14230, 0x8F, 0xE9),
        (0x0C, .vag, .vvag, 0x01, 0x8A)],
      let s := down r.1 (keyByteScript 0x010 2 r.2.2.2.1 r.2.2.2.2 ++ waited 1 ++ acked ++
        got [0xCC])
      s.link = .down ∧ s.proto = some r.2.1 ∧ s.initMode = 1 ∧ hasCap 0x010 .slow = true ∧
      hasCap 0x010 .doesSlowInit = false ∧ kbOk r.2.2.1 r.2.2.2.1 r.2.2.2.2 = true ∧
      s.params.tIdle5baud ≤ 2 ∧ s.params.w4min ≤ 1 ∧
      s.inputs = keyByteScript 0x010 2 r.2.2.2.1 r.2.2.2.2 ++ waited 1 ++ acked ++
        got [~~~s.target] ++ [] :=
  ⟨⟨.iso9141, .iso14230, .vag⟩, by decide +kernel⟩

theorem witness_StartFiveBaud_device_acknowledges :
    let s := down 0x08 (keyByteScript 0x110 2 0x08 0x08)
    s.link = .down ∧ s.proto = some .iso9141 ∧ s.initMode = 1 ∧ hasCap 0x110 .slow = true ∧
    hasCap 0x110 .doesSlowInit = true ∧ kbOk .v9141 0x08 0x08 = true ∧
    s.params.tIdle5baud ≤ 2 ∧ s.inputs = keyByteScript 0x110 2 0x08 0x08 ++ [] := by
  decide +kernel

/-- One tick less than T_IDLE_5BAUD, and one less than W4MIN. -/
theorem witness_StartFiveBaud_asleep :
    let s := down 0x08 (acked ++ gotFlags 0x010 ++ acked ++ waited 1)
    let z := down 0x08 (keyByteScript 0x010 2 0x08 0x08 ++ waited 0)
    (s.link = .down ∧ s.proto = some .iso9141 ∧ s.initMode = 1 ∧ hasCap 0x010 .slow = true ∧
      1 < s.params.tIdle5baud ∧ s.inputs = acked ++ gotFlags 0x010 ++ acked ++ waited 1) ∧
    z.link = .down ∧ z.proto = some .iso9141 ∧ z.initMode = 1 ∧ hasCap 0x010 .slow = true ∧
    hasCap 0x010 .doesSlowInit = false ∧ kbOk .v9141 0x08 0x08 = true ∧
    z.params.tIdle5baud ≤ 2 ∧ 0 < z.params.w4min ∧
    z.inputs = keyByteScript 0x010 2 0x08 0x08 ++ waited 0 := by decide +kernel

/-- An error at each stage of a 5-baud START, and a last byte other than the inverted address. -/
theorem witness_StartWrongKeyBytes_errors :
    let flushed := acked ++ gotFlags 0x010 ++ acked ++ waited 2
    let sent := keyByteScript 0x010 2 0x08 0x08 ++ waited 1
    (∀ evs ∈ [gotErr .timeout, acked ++ gotFlags 0x010 ++ gotErr .ioError,
        flushed ++ gotErr .timeout, flushed ++ acked ++ gotErr .timeout,
        flushed ++ acked ++ got [0x08] ++ gotErr .timeout, sent ++ gotErr .busError,
        sent ++ acked ++ gotErr .timeout, sent ++ acked ++ got [0x33]],
      let s := down 0x08 evs
      s.link = .down ∧ LegalPair s ∧ s.proto = some .iso9141 ∧ s.initMode = 1 ∧
      s.params.tIdle5baud ≤ 2 ∧ s.params.w4min ≤ 1 ∧ s.inputs = evs ++ [] ∧
      seen (exec .start s) (fun t => decide (t.link = .down ∧ t.estate = .idle ∧ t.err ≠ .ok)) =
        some true) ∧
    hasCap 0x010 .slow = true ∧ hasCap 0x010 .doesSlowInit = false ∧
    kbOk .v9141 0x08 0x08 = true ∧ (0x33 : Byte) ≠ ~~~(down 0x08 []).target := by decide +kernel

theorem witness_StartWrongKeyBytes :
    ∀ r ∈ [((0x08 : BitVec 6), Proto.iso9141, KeyVariant.v9141, (0x08 : Byte), (0x94 : Byte)),
        (0x08, .iso9141, .v9141, 0x55, 0x55), (0x0C, .vag, .vvag, 0x8A, 0x01)],
      let s := down r.1 (keyByteScript 0x010 2 r.2.2.2.1 r.2.2.2.2)
      s.link = .down ∧ s.proto = some r.2.1 ∧ s.initMode = 1 ∧
      kbOk r.2.2.1 r.2.2.2.1 r.2.2.2.2 = false ∧ s.params.tIdle5baud ≤ 2 ∧
      s.inputs = keyByteScript 0x010 2 r.2.2.2.1 r.2.2.2.2 ++ [] := by decide +kernel

theorem witness_StartFastInit :
    let s := down 0x11 (acked ++ gotFlags 0x020 ++ waited 1)
    let z : State :=
      { down 0x11 (acked ++ gotFlags 0x020) with params := { params with tIdleFast := 0 } }
    (s.link = .down ∧ s.proto = some .iso14230 ∧ s.initMode = 2 ∧ hasCap 0x020 .fast = true ∧
      s.params.tIdleFast ≤ 1 ∧ (s.params.tIdleFast = 0 → 1 = 0) ∧
      s.inputs = acked ++ gotFlags 0x020 ++
        (if s.params.tIdleFast = 0 then [] else waited 1) ++ []) ∧
    (let s := down 0x11 (acked ++ gotFlags 0x020 ++ waited 0)
     0 < s.params.tIdleFast ∧ s.inputs = acked ++ gotFlags 0x020 ++ waited 0) ∧
    z.link = .down ∧ z.proto = some .iso14230 ∧ z.initMode = 2 ∧ z.params.tIdleFast ≤ 0 ∧
      z.inputs = acked ++ gotFlags 0x020 ++
        (if z.params.tIdleFast = 0 then [] else waited 0) ++ [] := by decide +kernel

theorem witness_FailedStartAndSend :
    (∃ t, exec .start (down 0x03 (gotErr .ioError)) = .next t ∧
      decide (t.estate = .idle ∧ t.err ≠ .ok) = true) ∧
    ∃ t, exec .send (tx (up 0x03 0 0 (gotErr .ioError)) [0x01]) = .next t ∧
      decide (¬(t.estate = .idle ∧ t.err = .ok)) = true :=
  ⟨of_seen (by decide +kernel), of_seen (by decide +kernel)⟩

/-- V-FAST: with two bytes held, 0 and 4 more, 1 and 2 more, and the three that complete the five. -/
theorem witness_FastInitAccumulation :
    ∀ n ∈ [0, 1, 2, 3, 4],
      let s := { tx (linked (down 0x11 acked) .fastPending) (bytes n) with fastbuf := [0x11, 0x22] }
      let z := { s with inputs := gotErr .timeout }
      s.link = .fastPending ∧ TxHolds s (bytes n) ∧ s.inputs = acked ++ [] ∧
      z.inputs = gotErr .timeout ++ [] ∧
      ((bytes n = [] ∨ 5 < s.fastbuf.length + (bytes n).length) ↔ n = 0 ∨ n = 4) ∧
      ((bytes n ≠ [] ∧ s.fastbuf.length + (bytes n).length < 5) ↔ n = 1 ∨ n = 2) := by
  decide +kernel

/-- V-SEND: payloads of 0, 1, 7 and 8 bytes, in one operation and byte by byte. -/
theorem witness_SendIso9141Frame :
    (∀ n ∈ [0, 1, 7, 8], (up 0x08 0x018 0x01F []).link = .up ∧
      (up 0x08 0x018 0x01F []).proto = some .iso9141 ∧
      TxHolds (tx (up 0x08 0x018 0x01F []) (bytes n)) (bytes n)) ∧
    ∀ c ∈ [((0x018 : BitVec 9), acked), (0x01A, acked), (0x010, bytewiseScript 1 6)],
      let s := tx (up 0x08 c.1 0x01F c.2) [0x01, 0x00]
      let frame := [0x68, 0x6A, s.source] ++ [0x01, 0x00] ++
        (if s.l0Has .doesL2Checksum then [] else
          [checksum ([0x68, 0x6A, s.source] ++ [0x01, 0x00])])
      s.tp4min.toNat ≤ 1 ∧ s.inputs = emitScript s 1 frame ++ [] := by decide +kernel

/-- Payloads of 0, 1, 8 (the bound of the tests' parameters) and 9 bytes, with and without the CRC. -/
theorem witness_SendJ1850Frame :
    ∀ n ∈ [0, 1, 8, 9], ∀ l0 ∈ [(0x001 : BitVec 9), 0x003],
      let s := tx (up 0x02 l0 0x007 acked) (bytes n)
      s.link = .up ∧ s.proto = some .j1850 ∧ TxHolds s (bytes n) ∧ s.inputs = acked ++ [] ∧
      ((1 ≤ (bytes n).length ∧ (bytes n).length ≤ s.params.j1850MaxPayload) ↔ n = 1 ∨ n = 8) := by
  decide +kernel

theorem witness_SendRawBytes :
    ∀ r ∈ [((0x03 : BitVec 6), Proto.raw, acked), (0x09, .iso14230, bytewiseScript 1 64)],
      let s := tx (up r.1 0 0 r.2.2) (bytes 64)
      s.link = .up ∧ s.proto = some r.2.1 ∧ TxHolds s (bytes 64) ∧ s.tp4min.toNat ≤ 1 ∧
      s.inputs = emitScript s 1 (bytes 64) ++ [] ∧ TxHolds (tx s []) [] := by decide +kernel

theorem witness_SendEmitsTheFrame :
    ∀ r ∈ [((0x08 : BitVec 6), [(0x68 : Byte), 0x6A, 0xF1, 0x01, 0xC4], bytewiseScript 1 5),
        (0x02, [0x68, 0x6A, 0xF1, 0x01, 0xF7], acked), (0x03, [0x01], acked), (0x09, [0x01], acked)],
      let s := tx (up r.1 0 0 r.2.2) [0x01]
      s.link = .up ∧ TxHolds s [0x01] ∧ frameFor s [0x01] = .ok r.2.1 ∧ s.tp4min.toNat ≤ 1 ∧
      s.inputs = emitScript s 1 r.2.1 ++ [] := by decide +kernel

/-- Asleep after the first byte and after the last but one, one tick less than TP4MIN. -/
theorem witness_SendEmitsTheFrame_asleep :
    ∀ k ∈ [1, 4],
      let s := tx (up 0x08 0 0 (bytewiseScript 1 k ++ waited 0)) [0x01]
      let frame := [0x68, 0x6A, 0xF1, 0x01, 0xC4]
      s.link = .up ∧ TxHolds s [0x01] ∧ frameFor s [0x01] = .ok frame ∧ s.tp4min.toNat ≤ 1 ∧
      ByteByByte s frame ∧ 1 ≤ k ∧ k < frame.length ∧ 0 < s.tp4min.toNat ∧
      s.inputs = bytewiseScript 1 k ++ waited 0 := by decide +kernel

/-- V-SEND: an error at the first, the third (the row of the vector) and the last of six sends, and at the
one send of the frame; the same for REQUEST, L3_SEND and L3_KEEPALIVE. -/
theorem witness_SendEmitsTheFrame_fails :
    (∀ r ∈ [((0x010 : BitVec 9), 0), (0x010, 2), (0x010, 5), (0x018, 0)],
      let s := { tx (session 0x08 r.1 0x017 (failScript 1 r.2 .ioError)) [0x01, 0x00] with
        now := 3501 }
      s.link = .up ∧ TxHolds s [0x01, 0x00] ∧ frameFor s [0x01, 0x00] = .ok req0100 ∧
      s.tp4min.toNat ≤ 1 ∧ r.2 < emitCount s req0100 ∧ ¬NoFraming s ∧ s.l3active = true ∧
      s.has .keepalive = false ∧ 3500 < (s.now - s.l3idle).toNat ∧
      s.inputs = failScript 1 r.2 .ioError ++ []) ∧
    L0Err.ioError ≠ .timeout ∧
    seen (exec .send (tx (up 0x08 0x010 0x017 (failScript 1 2 .ioError)) [0x01, 0x00]))
      (fun t => (t.err, t.lasttx, t.history)) =
    some (.ioError, none, [okEvent (.send [0x68]), okEvent (.send [0x6A]),
      errEvent (.send [0xF1]) .ioError]) := by decide +kernel

theorem witness_UnsupportedTransfers :
    (session 0x0C 0x010 0x010 []).proto = some .vag ∧ (session 0x0C 0x010 0x010 []).link = .up ∧
    (session 0x0C 0x010 0x010 []).l3active = true ∧
    (queued (session 0x0C 0x010 0x010 []) 15).msgq.length < 16 ∧
    (up 0x02 0x000 0x007 []).link = .up ∧ (up 0x02 0x000 0x007 []).proto = some .j1850 ∧
    (up 0x02 0x000 0x007 []).l0Has .doesL2Frame = false := by decide +kernel

theorem witness_RecvRawMessage :
    ∀ c ∈ [((0x03 : BitVec 6), Proto.raw), (0x09, .iso14230)], ∀ n ∈ [1, 64], ∀ q ∈ [15, 16],
      let s := queued (up c.1 0 0 (got (bytes n))) q
      s.link = .up ∧ s.proto = some c.2 ∧ 1 ≤ (bytes n).length ∧ (bytes n).length ≤ 64 ∧
      s.inputs = got (bytes n) ++ [] ∧ (s.msgq.length < 16 ↔ q = 15) ∧
      ({ s with inputs := gotErr .timeout } : State).inputs = gotErr .timeout ++ [] := by
  decide +kernel

/-- Where FRAMELEN9141 gives no proper prefix, the frame is not split. -/
theorem noSplit_of {s : State} {f : List Byte} (h : pieceLen s f = f.length) : NoSplit s f := by
  intro k hk hlt
  simp only [pieceLen, hk, if_pos hlt] at h
  omega

/-- V-E2E: in one read, in two, and with the checksum stripped by the L0 device. -/
theorem witness_RecvIso9141Message :
    (∀ r ∈ [((0x018 : BitVec 9), [e2e]), (0x018, [e2e.take 3, e2e.drop 3]), (0x01C, [e2e.take 5])],
      let s := queued (up 0x08 r.1 0x01F
        ((r.2.map got).flatten ++ gotErr .timeout ++ gotErr .timeout)) 15
      let full := queued s 16
      s.link = .up ∧ s.proto = some .iso9141 ∧ [(0x02 : Byte), 0x03] ≠ [] ∧
      (∀ c ∈ r.2, c ≠ []) ∧ r.2.flatten = response9141 s 0x01 [0x02, 0x03] ∧
      (response9141 s 0x01 [0x02, 0x03]).length < 64 ∧
      pieceLen s (response9141 s 0x01 [0x02, 0x03]) = (response9141 s 0x01 [0x02, 0x03]).length ∧
      s.msgq.length < 16 ∧ ¬full.msgq.length < 16 ∧
      s.inputs = (r.2.map got).flatten ++ gotErr .timeout ++ gotErr .timeout ++ []) ∧
    NoSplit (up 0x08 0x018 0x01F []) (response9141 (up 0x08 0x018 0x01F []) 0x01 [0x02, 0x03]) :=
  ⟨by decide +kernel, noSplit_of (by decide +kernel)⟩

/-- V-RECV9141: a wrong checksum byte, a frame of 63 bytes, and one of FRAME_CAP bytes. -/
theorem witness_RecvIso9141Message_refused :
    (∀ f ∈ [e2e.take 5, [], List.replicate 62 (0xFF : Byte)],
      let s := up 0x08 0x018 0x01F (got (f ++ [0xBA]) ++ gotErr .timeout ++ gotErr .timeout)
      s.l0Has .stripsL2Checksum = false ∧ f.length < 63 ∧ (0xBA : Byte) ≠ checksum f ∧
      pieceLen s (f ++ [0xBA]) = (f ++ [0xBA]).length ∧
      s.inputs = got (f ++ [0xBA]) ++ gotErr .timeout ++ gotErr .timeout ++ []) ∧
    NoSplit (up 0x08 0x018 0x01F []) (e2e.take 5 ++ [0xBA]) ∧
    ∀ cs ∈ [[bytes 64], [bytes 63, bytes 1]], (∀ c ∈ cs, c ≠ []) ∧ cs.flatten.length = 64 ∧
      (up 0x08 0x018 0x01F (cs.map got).flatten).inputs = (cs.map got).flatten ++ [] :=
  ⟨by decide +kernel, noSplit_of (by decide +kernel), by decide +kernel⟩

/-- V-RECV9141: a Timeout and another error at the first read, an error while a frame accumulates, and one
in the wait for more, with MSGQ holding messages. -/
theorem witness_RecvIso9141Message_errors :
    (∀ r ∈ [(([] : List (List Byte)), L0Err.timeout), ([], .busError), ([e2e], .ioError),
        ([e2e.take 3, bytes 60], .busError)],
      let s := queued (up 0x08 0x018 0x01F ((r.1.map got).flatten ++ gotErr r.2)) 2
      (∀ c ∈ r.1, c ≠ []) ∧ r.1.flatten.length < 64 ∧ (r.1 = [] ∨ r.2 ≠ .timeout) ∧
      s.inputs = (r.1.map got).flatten ++ gotErr r.2 ++ [] ∧
      seen (exec .recv s) (fun t => (t.err, t.msgq.length)) = some (r.2.toCode, 2)) ∧
    let s := queued (up 0x08 0x018 0x01F (got e2e ++ gotErr .timeout ++ gotErr .busError)) 2
    s.inputs = ([e2e].map got).flatten ++ gotErr .timeout ++ gotErr .busError ++ [] ∧
    seen (exec .recv s) (fun t => (t.err, t.msgq.length, t.history[2]?)) =
      some (.busError, 2, some (recvErr 64 55 .busError)) := by decide +kernel

/-- V-RECV9141: a wrong header with a right checksum, and a header and a checksum with no payload byte, with
the checksum and stripped. -/
theorem witness_RecvIso9141Message_header :
    (∀ r ∈ [((0x018 : BitVec 9), [(0x48 : Byte), 0x6A, 0x10, 0x41, 0x03]),
        (0x018, [0x48, 0x6B, 0x10, 0xC3]), (0x01C, [0x48, 0x6B, 0x10]), (0x01C, [0x48])],
      let s := up 0x08 r.1 0x01F (got r.2 ++ gotErr .timeout ++ gotErr .timeout)
      r.2 ≠ [] ∧ r.2.length < 64 ∧ pieceLen s r.2 = r.2.length ∧
      (r.2.take 2 ≠ [0x48, 0x6B] ∨ r.2.length < 4 + trailer s) ∧
      s.inputs = got r.2 ++ gotErr .timeout ++ gotErr .timeout ++ []) ∧
    NoSplit (up 0x08 0x018 0x01F []) [0x48, 0x6A, 0x10, 0x41, 0x03] ∧
    NoSplit (up 0x08 0x018 0x01F []) [0x48, 0x6B, 0x10, 0xC3] :=
  ⟨by decide +kernel, noSplit_of (by decide +kernel), noSplit_of (by decide +kernel)⟩

/-- T_ib where the two values meet: TP2MIN - 2 = TP1MAX, and one less. -/
theorem witness_tIb :
    let s := { up 0x08 0x018 0x01F [] with tp1max := 20, tp2min := 22 }
    s.tp1max.toNat + 2 ≤ s.tp2min.toNat ∧ s.tIb = 20 ∧
    ({ s with tp2min := 21 } : State).tp2min.toNat < s.tp1max.toNat + 2 := by decide +kernel

theorem witness_RecvIso9141Split :
    (let s := queued (up 0x08 0x018 0x01F
        (got (resp10 ++ resp18) ++ gotErr .timeout ++ gotErr .timeout)) 14
     s.link = .up ∧ s.proto = some .iso9141 ∧
     resp10 = response9141 s 0x10 [0x41, 0x00, 0xBE, 0x1F, 0xA8, 0x13] ∧
     resp18 = response9141 s 0x18 [0x41, 0x00, 0x80, 0x00, 0x00, 0x00] ∧
     (resp10 ++ resp18).length < 64 ∧ frameLen9141 s (resp10 ++ resp18) = some resp10.length ∧
     s.msgq.length < 15 ∧
     s.inputs = got (resp10 ++ resp18) ++ gotErr .timeout ++ gotErr .timeout ++ []) ∧
    NoSplit (up 0x08 0x018 0x01F []) resp18 :=
  ⟨by decide +kernel, noSplit_of (by decide +kernel)⟩

/-- S6 in two frames, the second begun 3 ticks into the wait for more, with T_3 extended by P3_EXT; and the
second frame without its last bytes. -/
theorem witness_RecvIso9141Split_two_frames :
    (∀ f₂ ∈ [resp18, resp18.take 4],
      let s := queued (up 0x08 0x019 0x01F (got resp10 ++ gotErr .timeout ++
        List.replicate 3 .tick ++ got f₂ ++ gotErr .timeout ++ gotErr .timeout)) 14
      s.link = .up ∧ s.proto = some .iso9141 ∧ waitMore s = 65 ∧
      resp10 = response9141 s 0x10 [0x41, 0x00, 0xBE, 0x1F, 0xA8, 0x13] ∧ resp10.length < 64 ∧
      f₂ ≠ [] ∧ f₂.length < 64 ∧ pieceLen s f₂ = f₂.length ∧ s.msgq.length < 15 ∧
      s.inputs = got resp10 ++ gotErr .timeout ++ List.replicate 3 .tick ++ got f₂ ++
        gotErr .timeout ++ gotErr .timeout ++ [] ∧
      seen (exec .recv s) (fun t => (t.err, t.msgq.drop 14)) =
        if f₂ = resp18 then
          some (.ok, [message9141 0x10 [0x41, 0x00, 0xBE, 0x1F, 0xA8, 0x13] 0,
            message9141 0x18 [0x41, 0x00, 0x80, 0x00, 0x00, 0x00] 3])
        else some (.badData, [])) ∧
    resp18 = response9141 (up 0x08 0x019 0x01F []) 0x18 [0x41, 0x00, 0x80, 0x00, 0x00, 0x00] ∧
    (resp18.take 4).length < 4 + trailer (up 0x08 0x019 0x01F []) ∧
    NoSplit (up 0x08 0x019 0x01F []) resp10 ∧ NoSplit (up 0x08 0x019 0x01F []) resp18 ∧
    NoSplit (up 0x08 0x019 0x01F []) (resp18.take 4) ∧
    let s := up 0x08 0x019 0x01F (got resp10 ++ gotErr .timeout ++ List.replicate 3 .tick ++
      got resp18 ++ gotErr .ioError)
    seen (exec .recv s) (fun t => (t.err, t.msgq)) = some (.ioError, []) :=
  ⟨by decide +kernel, by decide +kernel, by decide, noSplit_of (by decide +kernel),
    noSplit_of (by decide +kernel), noSplit_of (by decide +kernel), by decide +kernel⟩

/-- V-J1850: two frames with the CRC, and two without, the longer of them of FRAME_CAP bytes. -/
theorem witness_RecvJ1850Frames :
    ∀ r ∈ [((0x001 : BitVec 9), 2), (0x005, 61)],
      let fs : List Frame1850 := [⟨0x48, 0x6B, 0x10, [0x41]⟩, ⟨0x48, 0x6B, 0x18, bytes r.2⟩]
      let b := up 0x02 r.1 0x007 []
      let evs := (fs.map fun f => got (f.bytes b)).flatten ++ gotErr .timeout
      let s := queued { b with inputs := evs } 14
      s.link = .up ∧ s.proto = some .j1850 ∧ s.l0Has .doesL2Frame = true ∧ fs.length = 2 ∧
      (∀ f ∈ fs, f.payload ≠ [] ∧ (f.bytes s).length ≤ 64) ∧ s.msgq.length + fs.length ≤ 16 ∧
      s.inputs = (fs.map fun f => got (f.bytes s)).flatten ++ gotErr .timeout ++ [] := by
  decide +kernel

/-- V-J1850: a wrong CRC byte behind a good frame, and a frame with no payload byte, with the CRC and
stripped. -/
theorem witness_RecvJ1850Frames_bad :
    ∀ r ∈ [((0x001 : BitVec 9), [(0x68 : Byte), 0x6A, 0xF1, 0x01, 0x00, 0x18]),
        (0x001, [0x48, 0x6B, 0x10, 0x41]), (0x005, [0x48, 0x6B, 0x10])],
      let ds : List (List Byte) := [[0x68, 0x6A, 0xF1, 0x01, 0x00, 0x17], r.2]
      let s := up 0x02 r.1 0x007 ((ds.map got).flatten ++ gotErr .timeout)
      s.link = .up ∧ s.proto = some .j1850 ∧ s.l0Has .doesL2Frame = true ∧
      (∀ d ∈ ds, 1 ≤ d.length ∧ d.length ≤ 64) ∧ r.2 ∈ ds ∧
      (r.2.length < 4 + trailer s ∨
        (s.l0flags.getLsbD 2 = false ∧ r.2.getLast? ≠ some (crc8 r.2.dropLast))) ∧
      s.inputs = (ds.map got).flatten ++ gotErr .timeout ++ [] ∧
      seen (exec .recv s) (fun t => (t.err, t.msgq)) = some (.badData, []) := by decide +kernel

/-- A Timeout with no frame, and an IOError with none and behind one. -/
theorem witness_RecvJ1850Frames_errors :
    ∀ r ∈ [(([] : List (List Byte)), L0Err.timeout), ([], .ioError), ([bytes 64], .ioError)],
      let s := up 0x02 0x001 0x007 ((r.1.map got).flatten ++ gotErr r.2)
      s.link = .up ∧ s.proto = some .j1850 ∧ s.l0Has .doesL2Frame = true ∧ FullReads r.1 ∧
      (r.2 = .ioError ∨ (r.2 = .timeout ∧ r.1 = [])) ∧
      s.inputs = (r.1.map got).flatten ++ gotErr r.2 ++ [] := by decide +kernel

/-- V-J1850: no contention, one behind a frame, and 29 and 30, then good frames, an error of the read, a
resend answered with an error, and the contention at the bound. -/
theorem witness_BusContentionBound :
    (∀ rounds ∈ [[], [[bytes 64]], List.replicate 29 [], List.replicate 30 ([] : List (List Byte))],
      let fs : List Frame1850 := [⟨0x48, 0x6B, 0x18, [0x41]⟩]
      let b := { queued (up 0x02 0x001 0x007 []) 15 with lasttx := some req0100 }
      let after := fun evs : List Input => { b with inputs := resendScript rounds ++ evs }
      b.link = .up ∧ b.proto = some .j1850 ∧ b.l0Has .doesL2Frame = true ∧ FullReads [bytes 64] ∧
      b.lasttx = some req0100 ∧ rounds.length ≤ 30 ∧ (∀ r ∈ rounds, FullReads r) ∧
      (∀ g ∈ fs, g.payload ≠ [] ∧ (g.bytes b).length ≤ 64) ∧ b.msgq.length + fs.length ≤ 16 ∧
      seen (exec .recv (after ((fs.map fun g => got (g.bytes b)).flatten ++ gotErr .timeout)))
        (fun t => (t.err, t.retries.toNat)) = some (.ok, rounds.length) ∧
      seen (exec .recv (after (gotErr .timeout))) (fun t => (t.err, t.retries.toNat)) =
        some (.timeout, rounds.length) ∧
      (rounds.length < 30 →
        seen (exec .recv (after (got (bytes 64) ++ gotErr .busError ++ gotErr .ioError)))
          (fun t => (t.err, t.retries.toNat)) = some (.ioError, rounds.length + 1)) ∧
      (rounds.length = 30 →
        seen (exec .recv (after (gotErr .busError))) (fun t => (t.err, t.retries.toNat)) =
          some (.busError, 30))) ∧
    let z := up 0x02 0x001 0x007 (got (bytes 64) ++ gotErr .busError)
    z.lasttx = none ∧ z.inputs = ([bytes 64].map got).flatten ++ gotErr .busError ++ [] := by
  decide +kernel

theorem witness_ReceiveAppendsAllOrNothing :
    (∃ t, exec .recv (queued waiting 16) = .next t ∧ decide (t.estate = .idle ∧ t.err ≠ .ok) = true) ∧
    ∃ t, exec .recv (queued (up 0x03 0 0 (got (bytes 64))) 15) = .next t ∧
      decide (t.estate = .idle ∧ t.err = .ok) = true :=
  ⟨of_seen (by decide +kernel), of_seen (by decide +kernel)⟩

theorem witness_RequestSendsThenReceives :
    let rest := got resp10 ++ gotErr .timeout ++ gotErr .timeout
    let s := tx (up 0x08 0x018 0x01F (acked ++ rest)) [0x01, 0x00]
    let z := tx (up 0x08 0x010 0x017 (gotErr .ioError)) [0x01, 0x00]
    s.link = .up ∧ TxHolds s [0x01, 0x00] ∧ frameFor s [0x01, 0x00] = .ok req0100 ∧
    ¬NoFraming s ∧ s.tp4min.toNat ≤ 1 ∧ s.inputs = emitScript s 1 req0100 ++ rest ∧
    (∃ t, exec .recv (afterFrame s 1 req0100 rest) = .next t ∧ decide (t.estate = .idle) = true) ∧
    z.link = .up ∧ TxHolds z [0x01, 0x00] ∧ frameFor z [0x01, 0x00] = .ok req0100 ∧
    ¬NoFraming z ∧ L0Err.ioError ≠ .timeout ∧ z.inputs = gotErr .ioError ++ [] :=
  ⟨by decide, by decide +kernel, by decide +kernel, by decide, by decide, by decide +kernel,
    of_seen (by decide +kernel), by decide, by decide +kernel, by decide +kernel, by decide,
    by decide, by decide⟩

/-- REQUEST on a J1850 link without framing, whose send would have failed; and payloads that each framer
refuses, at the bounds. -/
theorem witness_RequestSendsThenReceives_refused :
    (let s := tx (up 0x02 0x000 0x007 (gotErr .ioError)) [0x01]
     s.link = .up ∧ TxHolds s [0x01] ∧ frameFor s [0x01] = .ok [0x68, 0x6A, 0xF1, 0x01, 0xF7] ∧
     NoFraming s ∧ seen (exec .request s) (fun t => (t.err, t.lasttx, t.history)) =
       some (.protocolNotSupported, none, [])) ∧
    ∀ r ∈ [((0x08 : BitVec 6), 0), (0x08, 8), (0x02, 0), (0x02, 9), (0x03, 0), (0x09, 0)],
      let s := tx (session r.1 0x001 0 []) (bytes r.2)
      s.link = .up ∧ s.l3active = true ∧ TxHolds s (bytes r.2) ∧ FramerRefuses s (bytes r.2) := by
  decide +kernel

theorem witness_RequestSendsThenReceives_raw :
    ∀ n ∈ [1, 64],
      let s := queued (tx (up 0x03 0 0 (acked ++ got (bytes n))) [0x01]) 15
      s.link = .up ∧ TxHolds s [0x01] ∧ frameFor s [0x01] = .ok [0x01] ∧ s.proto = some .raw ∧
      1 ≤ (bytes n).length ∧ (bytes n).length ≤ 64 ∧ s.msgq.length < 16 ∧
      s.inputs = acked ++ got (bytes n) ++ [] := by decide +kernel

theorem witness_MsgPopRemovesHead :
    (queued (down 0 []) 1).msgq = ⟨[0x41], 0x10, 0x6B, 0x7, 0⟩ :: [] ∧ (down 0 []).msgq = [] := by
  decide

theorem witness_SessionStartAndStop :
    (up 0x03 0 0 []).l3active = false ∧ (up 0x03 0 0 []).link = .up ∧
    (session 0x03 0 0 []).l3active = true := by decide

theorem witness_SessionSend :
    let s := tx (session 0x08 0x018 0x01F acked) [0x01, 0x00]
    let z := tx (session 0x08 0x010 0x017 (gotErr .busError)) [0x01, 0x00]
    s.l3active = true ∧ TxHolds s [0x01, 0x00] ∧ frameFor s [0x01, 0x00] = .ok req0100 ∧
    s.tp4min.toNat ≤ 1 ∧ s.inputs = emitScript s 1 req0100 ++ [] ∧
    z.l3active = true ∧ TxHolds z [0x01, 0x00] ∧ frameFor z [0x01, 0x00] = .ok req0100 ∧
    L0Err.busError ≠ .timeout ∧ z.inputs = gotErr .busError ++ [] := by decide +kernel

/-- V-L3LEN, at the ends of each range of mode bytes. -/
theorem witness_LengthInference :
    ([0x68, 0x6A, 0xF1] : List Byte).length < 4 ∧
    (∀ m ∈ [(0x00 : Byte), 0x0A, 0x40, 0x4A, 0xFF],
      ([0x68, 0x6A, 0xF1, m] : List Byte)[3]? = some m ∧
      (m.toNat = 0 ∨ 0x0A ≤ m.toNat ∧ m.toNat ≤ 0x40 ∨ 0x4A ≤ m.toNat)) ∧
    (∀ m ∈ [(0x41 : Byte), 0x42, 0x45, 0x49], ([0x48, 0x6B, 0x10, m] : List Byte).length = 4 ∧
      ([0x48, 0x6B, 0x10, m, 0x00] : List Byte)[4]? = some 0x00) ∧
    ([0x48, 0x6B, 0x10, 0x43] : List Byte)[3]? = some 0x43 := by decide

/-- S5: two messages, the first split after byte 2. -/
theorem witness_ReassemblyIdempotence :
    (∀ m ∈ [resp10, req0100], expectedLength params m = .ok m.length) ∧
    [resp10, req0100].length ≤ 2 ∧
    ([((1 : Word), resp10.take 2), (2, resp10.drop 2 ++ req0100)].map Prod.snd).flatten =
      [resp10, req0100].flatten := by decide +kernel

/-- s with bytes in L3BUF. -/
def held (s : State) (buf : List Byte) : State := { s with l3buf := buf }

/-- V-L3: one message in the poll, three with one place left (R257 (g)), three in L3BUF before the poll
with a tail, and a full L3BUF. -/
theorem witness_SessionRecvMessage_poll :
    let tenth := List.replicate 10 req0100
    ∀ r ∈ [(0, ([] : List Byte), resp10, [resp10], []),
        (15, [], req0100 ++ req0100 ++ req0100, [req0100, req0100, req0100], []),
        (13, req0100 ++ req0100 ++ resp10 ++ [0x48], [], [req0100, req0100, resp10], [0x48]),
        (0, tenth.flatten ++ [0x68, 0x6A, 0xF1, 0x01], [], tenth, [0x68, 0x6A, 0xF1, 0x01])],
      let s := held (queued (session 0x03 0 0 (polled r.2.2.1)) r.1) r.2.1
      BytePath s ∧ r.2.2.2.1 ≠ [] ∧
      (∀ x ∈ r.2.2.2.1, expectedLength s.params x = .ok x.length) ∧
      expectedLength s.params r.2.2.2.2 ≠ .bad ∧ r.2.2.2.2.length < 5 ∧
      s.l3buf ++ r.2.2.1 = r.2.2.2.1.flatten ++ r.2.2.2.2 ∧ (s.l3buf ++ r.2.2.1).length ≤ 64 ∧
      s.inputs = polled r.2.2.1 ++ [] ∧
      seen (exec .l3Recv s) (fun t => (t.err, t.msgq.length, t.history.length)) =
        some (.ok, min 16 (r.1 + r.2.2.2.1.length), if s.l3buf.length = 64 then 0 else 1) := by
  decide +kernel

/-- V-L3: the stream split after byte 2, and a tail behind the message in L3_NORMAL. -/
theorem witness_SessionRecvMessage_normal :
    ∀ r ∈ [(([] : List Byte), resp10.take 2, resp10.drop 2, resp10, []),
        ([], [], req0100 ++ [0x68], req0100, [0x68]), (resp10.take 9, [], [0x9C], resp10, [])],
      let s := held (queued (session 0x03 0 0 (polled r.2.1 ++ got r.2.2.1)) 15) r.1
      BytePath s ∧ r.2.2.1 ≠ [] ∧ Partial s.params (s.l3buf ++ r.2.1) ∧
      Partial s.params r.2.2.2.2 ∧ s.l3buf ++ r.2.1 ++ r.2.2.1 = [r.2.2.2.1].flatten ++ r.2.2.2.2 ∧
      (s.l3buf ++ r.2.1 ++ r.2.2.1).length ≤ 64 ∧ s.inputs = polled r.2.1 ++ got r.2.2.1 ++ [] := by
  intro r hr
  have h₁ : Partial params r.2.2.2.2 := .inl (by revert r; decide +kernel)
  have h₂ : Partial params (r.1 ++ r.2.1) := by
    simp only [List.mem_cons, List.not_mem_nil, or_false] at hr
    rcases hr with rfl | rfl | rfl
    · exact .inl (by decide +kernel)
    · exact .inl (by decide +kernel)
    · exact .inr ⟨10, by decide +kernel, by decide⟩
  refine ⟨?_, ?_, h₂, h₁, ?_, ?_, ?_⟩ <;> clear h₁ h₂ <;> revert r <;> decide +kernel

/-- Two places left, the row of L3_DRAIN in V-L3, a second message in two chunks and a tail behind it. -/
def drained (e : L0Err) : State :=
  queued (session 0x03 0 0 (byteScript [] (req0100.take 4) [req0100.drop 4] ++
    (([[req0100.take 1, req0100.drop 1]].flatten ++ [[0x48]]).map got).flatten ++ gotErr e)) 14

theorem witness_SessionRecvMessage_drain :
    ∀ e ∈ [L0Err.timeout, .busError],
      BytePath (drained e) ∧ req0100.length ≤ 64 ∧
      expectedLength (drained e).params req0100 = .ok req0100.length ∧
      [req0100.take 1, req0100.drop 1].flatten = req0100 ∧ 1 < roomLeft (drained e) ∧
      expectedLength (drained e).params [0x48] = .incomplete ∧
      (drained e).inputs = byteScript [] (req0100.take 4) [req0100.drop 4] ++
        (([[req0100.take 1, req0100.drop 1]].flatten ++ [[0x48]]).map got).flatten ++ gotErr e ++ [] ∧
      seen (exec .l3Recv (drained e)) (fun t => (t.err, t.msgq.length, t.history[2]?)) =
        some (if e = .timeout then .ok else .busError, 16,
          some (dataEvent 60 5 (req0100.drop 4))) := by decide +kernel

/-- V-L3: a message and then bytes that begin none, in the poll (the last place taken by the zero-length
message) and in L3BUF before it. -/
theorem witness_SessionRecvBadData :
    ∀ r ∈ [(15, ([] : List Byte), [(0x48 : Byte), 0x6B, 0x10, 0x40], [], [0x48, 0x6B, 0x10, 0x40]),
        (14, [], req0100 ++ [0x48, 0x6B, 0x10, 0x41, 0x02, 0x00], [req0100],
          [0x48, 0x6B, 0x10, 0x41, 0x02, 0x00]),
        (15, [0x48, 0x6B, 0x10, 0x41, 0x02, 0x00], [], [], [0x48, 0x6B, 0x10, 0x41, 0x02, 0x00])],
      let s := held (queued (session 0x03 0 0 (polled r.2.2.1)) r.1) r.2.1
      BytePath s ∧ (∀ x ∈ r.2.2.2.1, expectedLength s.params x = .ok x.length) ∧
      r.2.2.2.1.length < roomLeft s ∧ expectedLength s.params r.2.2.2.2 = .bad ∧
      s.l3buf ++ r.2.2.1 = r.2.2.2.1.flatten ++ r.2.2.2.2 ∧ (s.l3buf ++ r.2.2.1).length ≤ 64 ∧
      s.l3buf.length < 64 ∧ s.inputs = polled r.2.2.1 ++ [] := by decide +kernel

/-- R257 (d) in L3_NORMAL, and a BadData verdict in L3_DRAIN. -/
theorem witness_SessionRecvBadData_later :
    ∀ r ∈ [([(0x48 : Byte), 0x6B, 0x10, 0x41, 0x02, 0x00], ([] : List (List Byte))),
        ([0x48, 0x6B, 0x10], [[0x41], [0x02, 0x00]])],
      let s := queued (session 0x03 0 0 (byteScript [] r.1 r.2)) 15
      BytePath s ∧ (∀ c ∈ r.1 :: r.2, c ≠ []) ∧
      expectedLength s.params ([] ++ [] ++ (r.1 :: r.2).dropLast.flatten) = .incomplete ∧
      s.l3buf ++ [] ++ (r.1 :: r.2).flatten =
        ([] : List (List Byte)).flatten ++ [0x48, 0x6B, 0x10, 0x41, 0x02, 0x00] ∧
      ([] : List (List Byte)).length < roomLeft s ∧
      expectedLength s.params [0x48, 0x6B, 0x10, 0x41, 0x02, 0x00] = .bad ∧
      s.inputs = byteScript [] r.1 r.2 ++ [] := by decide +kernel

theorem witness_SessionRecvNothing :
    16 ≤ (queued (session 0x03 0 0 []) 16).msgq.length ∧
    (∀ buf ∈ [[], req0100, bytes 63],
      let s := held (queued (session 0x03 0 0 (gotErr .ioError)) 15) buf
      BytePath s ∧ s.l3buf.length < 64 ∧ L0Err.ioError ≠ .timeout ∧
      s.inputs = gotErr .ioError ++ []) ∧
    (∀ e ∈ [L0Err.timeout, .busError], ∀ a ∈ [[], [(0x48 : Byte)]],
      let s := queued (session 0x03 0 0 (polled a ++ gotErr e)) 15
      expectedLength s.params (s.l3buf ++ a) = .incomplete ∧ s.inputs = polled a ++ gotErr e ++ [] ∧
      seen (exec .l3Recv s) (fun t => (t.err, t.l3buf)) = some (e.toCode, a)) := by decide +kernel

/-- V-L3: the drain's Timeout and another error there, with five bytes of six. -/
theorem witness_SessionRecvNothing_drain :
    ∀ e ∈ [L0Err.timeout, .ioError],
      let s := queued (session 0x03 0 0 (byteScript [] (req0100.take 5) [] ++ gotErr e)) 15
      BytePath s ∧ (∀ c ∈ [req0100.take 5], c ≠ []) ∧
      Partial s.params (s.l3buf ++ [] ++ [req0100.take 5].flatten) ∧
      s.inputs = byteScript [] (req0100.take 5) [] ++ gotErr e ++ [] ∧
      seen (exec .l3Recv s) (fun t => (t.err, t.l3buf, t.history[2]?)) =
        some (e.toCode, req0100.take 5, some (recvErr 59 5 e)) := by
  intro e he
  have h : Partial params ([] ++ [] ++ [req0100.take 5].flatten) :=
    .inr ⟨6, by decide +kernel, by decide⟩
  refine ⟨?_, ?_, h, ?_, ?_⟩ <;> revert e <;> decide +kernel

theorem witness_SessionRecvFramed :
    let s := queued (session 0x08 0x018 0x01F (got resp10 ++ gotErr .timeout ++ gotErr .timeout)) 15
    s.l3active = true ∧ s.link = .up ∧ s.has .doesL2Frame = true ∧ s.msgq.length < 16 ∧
    ∃ t, exec .recv s = .next t ∧ decide (t.estate = .idle ∧ t.err = .ok) = true :=
  ⟨rfl, rfl, by decide, by decide, of_seen (by decide +kernel)⟩

/-- S10: 3500 and 3501 ms, the L0 device that keeps the link alive, and the wrap of V-KA. -/
theorem witness_KeepaliveCommand_nothing_to_do :
    (session 0x08 0x098 0x09F []).l3active = true ∧
    (session 0x08 0x098 0x09F []).has .keepalive = true ∧
    (let s := { session 0x08 0x018 0x01F [] with now := 3500 }
     s.has .keepalive = false ∧ (s.now - s.l3idle).toNat ≤ 3500) ∧
    let s := { session 0x08 0x018 0x01F [] with l3idle := 0xFFFFF000 }
    3500 < (s.now - s.l3idle).toNat := by decide +kernel

/-- 3501 ms on a VAG link, on a J1850 link that carries one payload byte, on a J1850 link without framing,
and with a send that fails. -/
theorem witness_KeepaliveCommand_fails :
    (let s := { session 0x0C 0x010 0x010 [] with now := 3501 }
     s.l3active = true ∧ s.has .keepalive = false ∧ 3500 < (s.now - s.l3idle).toNat ∧
     s.proto = some .vag) ∧
    (let s := { session 0x02 0x001 0x007 [] with
       now := 3501, params := { params with j1850MaxPayload := 1 } }
     s.has .keepalive = false ∧ FramerRefuses s [0x01, 0x00]) ∧
    (let s := { session 0x02 0x000 0x007 (gotErr .ioError) with now := 3501 }
     frameFor s [0x01, 0x00] = .ok [0x68, 0x6A, 0xF1, 0x01, 0x00, 0x17] ∧
     s.has .keepalive = false ∧ s.has .doesL2Frame = true ∧ NoFraming s ∧
     seen (exec .l3Keepalive s) (fun t => (t.err, t.history)) = some (.protocolNotSupported, [])) ∧
    let s := { session 0x08 0x018 0x01F (gotErr .ioError) with now := 3501, l3idle := 0 }
    ¬(s.has .doesL2Frame = true ∧ NoFraming s) ∧ s.has .keepalive = false ∧
    frameFor s [0x01, 0x00] = .ok req0100 ∧ L0Err.ioError ≠ .timeout ∧
    s.inputs = gotErr .ioError ++ [] ∧
    seen (exec .l3Keepalive s) (fun t => (t.err, t.l3idle)) = some (.ioError, 0) := by
  decide +kernel

theorem witness_KeepaliveCommand_framed :
    let rest := got resp10 ++ gotErr .timeout ++ gotErr .timeout
    let s := { queued (session 0x08 0x018 0x01F (acked ++ rest)) 16 with now := 3501 }
    let u := { afterFrame s 1 req0100 rest with l3idle := (afterFrame s 1 req0100 rest).now }
    s.l3active = true ∧ s.has .keepalive = false ∧ 3500 < (s.now - s.l3idle).toNat ∧
    frameFor s [0x01, 0x00] = .ok req0100 ∧ s.tp4min.toNat ≤ 1 ∧
    s.inputs = emitScript s 1 req0100 ++ rest ∧ s.has .doesL2Frame = true ∧ s.link = .up ∧
    ¬(s.has .doesL2Frame = true ∧ NoFraming s) ∧
    ∃ t, exec .recv { u with msgq := [] } = .next t ∧
      decide (t.estate = .idle ∧ t.err ≠ .noMemory) = true :=
  ⟨rfl, by decide, by decide, by decide +kernel, by decide, by decide +kernel, by decide, rfl,
    by decide, of_seen (by decide +kernel)⟩

theorem witness_KeepaliveCommand_bytes :
    let s := { session 0x03 0 0 (acked ++ got resp10) with now := 3501 }
    let u := { afterFrame s 0 [0x01, 0x00] (got resp10) with
      l3idle := (afterFrame s 0 [0x01, 0x00] (got resp10)).now }
    s.has .doesL2Frame = false ∧ 3500 < (s.now - s.l3idle).toNat ∧ s.l3buf = [] ∧
    frameFor s [0x01, 0x00] = .ok [0x01, 0x00] ∧ resp10.length ≤ 64 ∧
    expectedLength s.params resp10 = .ok resp10.length ∧
    ({ s with tp4min := 0 } : State).inputs =
      emitScript { s with tp4min := 0 } 0 [0x01, 0x00] ++ got resp10 ∧
    ∃ t, exec .l3Recv { u with msgq := [] } = .next t ∧ decide (t.estate = .idle) = true :=
  ⟨by decide, by decide, rfl, by decide +kernel, by decide, by decide +kernel, by decide +kernel,
    of_seen (by decide +kernel)⟩

/-- An L3_RECV that waits for the last byte of a message, with one place left in MSGQ. -/
def reassembling : State :=
  { queued (session 0x03 0 0 [.answer (.data [0x9C]), .engine]) 15 with
    busy := true
    arb := .rx
    l3buf := resp10.take 9
    estate := .awaitRecv 55 0 (.l3Probe ⟨.l3Recv, 1, []⟩) }

theorem reassembling_inv : BlockInv reassembling where
  busy_iff := by decide
  arb_eq := by decide
  l3_up := by decide
  l3_empty := by decide
  l3_len := by decide
  msgq_len := by decide
  msgq_ok := by
    intro m hm
    rw [List.eq_of_mem_replicate hm]
    exact ⟨by decide, by decide⟩
  fastbuf_len := by decide
  fastbuf_pending := fun _ => rfl
  lasttx_ne := fun _ h => nomatch h
  txbuf_wf := by decide
  err_ne := by decide
  retries_le := by decide
  config_legal := fun _ => by decide
  config_fast := fun h => nomatch h
  flags_merged := by
    intro _ p h
    cases h
    rfl
  estate_ok :=
    ⟨⟨⟨rfl, rfl, by decide, fun _ => by decide, fun _ h => nomatch h⟩, by decide⟩, by decide⟩

theorem witness_StepKeepsInvariant :
    BlockInv reassembling ∧ ∃ t, step reassembling = .next t ∧
      decide (t.arb = .idle) = true :=
  ⟨reassembling_inv, of_seen (by decide +kernel)⟩

theorem witness_WireTrafficMeetsContracts :
    BlockInv reassembling ∧ ∃ t, step reassembling = .next t ∧
      decide (t.history = [⟨.recv 55 0, some (.data [0x9C])⟩]) = true :=
  ⟨reassembling_inv, of_seen (by decide +kernel)⟩

theorem witness_ErrorsPerCommand :
    ∃ t, exec .l3Recv (queued (session 0x03 0 0 []) 16) = .next t ∧
      decide (t.estate = .idle ∧ t.err = .noMemory) = true := of_seen (by decide +kernel)

theorem witness_FrameOfEveryCommand :
    ∃ t, exec .request (tx (up 0x03 0 0 (acked ++ got resp10)) [0x01]) = .next t ∧
      decide (t.msgq.length = 1) = true := of_seen (by decide +kernel)

/-- V-ERR, SEND on a DOWN link: the word of SEND, placed to be run next right after reset. -/
theorem test_withFetchWord :
    seen (step (State.reset.withFetchWord 32 0x00000012)) (·.err) = some .illegalCommand ∧
    decodeTableWord 32 0x00000012 = some .send := by decide +kernel

end Sys2Proof.Tests
end

section

/-! ## The command a sub-state belongs to, and the beginning of a command -/

namespace Sys2Proof.Machine

/-- The command that runs `emit` for a sender (R184). -/
def Sender.command : Sender → Instr
  | .send => .send
  | .request => .request
  | .l3Send => .l3Send
  | .keepalive => .l3Keepalive

/-- The command that runs `l2_receive` for a receiver (R190). -/
def Receiver.command : Receiver → Instr
  | .recv => .recv
  | .request => .request
  | .l3Framed => .l3Recv
  | .keepalive => .l3Keepalive

/-- The command that runs the byte path (R250, R260). -/
def ByteCaller.command : ByteCaller → Instr
  | .l3Recv => .l3Recv
  | .keepalive => .l3Keepalive

/-- The command that waits at a sub-state for an Ok or an error. -/
def AckKont.command : AckKont → Instr
  | .startSetSpeed _ => .start
  | .s5Flush _ => .start
  | .s5Init _ => .start
  | .s5TxInv _ => .start
  | .fInit _ => .send
  | .emitFrame c _ => c.command
  | .emitByte c _ _ => c.command
  | .rx1850Resend c _ => c.command

/-- The command that waits at a sub-state for bytes. -/
def RecvKont.command : RecvKont → Instr
  | .s5Kb1 _ => .start
  | .s5Kb2 _ => .start
  | .s5RxInv _ => .start
  | .rxWaitFirst c => c.command
  | .rxAccum c _ _ _ => c.command
  | .rxWaitMore c _ => c.command
  | .rxRaw c => c.command
  | .rx1850 c _ _ => c.command
  | .l3Probe p => p.caller.command
  | .l3Normal p => p.caller.command
  | .l3Drain p => p.caller.command

/-- The command that sleeps at a sub-state. -/
def SleepKont.command : SleepKont → Instr
  | .s5Idle _ => .start
  | .s5W4 _ => .start
  | .fIdle => .start
  | .emitGap c _ _ => c.command

/-- The command that an engine state belongs to, `none` where no decoded command runs (R47). -/
def EState.command : EState → Option Instr
  | .idle => none
  | .decode _ => none
  | .awaitAck _ k => some k.command
  | .awaitFlags _ => some .start
  | .awaitRecv _ _ k => some k.command
  | .answeredAck _ k => some k.command
  | .answeredFlags _ _ => some .start
  | .answeredRecv _ _ k => some k.command
  | .sleeping _ _ k => some k.command

/-- The command `i` is running, or none is. -/
def EState.OwnedBy (e : EState) (i : Instr) : Prop := ∀ j, e.command = some j → j = i

/-- A command as far as its first suspension point. -/
def beginCommand (s : State) : Instr → Host.Outcome State Fault Refusal
  | .nop => execNop s
  | .cksInit => execCksInit s
  | .cksAdd b => execCksAdd b s
  | .cksBuf => execCksBuf s
  | .cksCheck => execCksCheck s
  | .crcInit => execCrcInit s
  | .crcAdd b => execCrcAdd b s
  | .crcBuf => execCrcBuf s
  | .crcCheck => execCrcCheck s
  | .start => .next (beginStart s)
  | .stop => execStop s
  | .send => beginSend s
  | .recv => .next (beginRecv s)
  | .request => beginRequest s
  | .msgPop => execMsgPop s
  | .l3Start => execL3Start s
  | .l3Stop => execL3Stop s
  | .l3Send => beginL3Send s
  | .l3Recv => .next (beginL3Recv s)
  | .l3Keepalive => .next (beginL3Keepalive s)

/-- A command on the bytes of TXBUF that completes at once needs no run. -/
theorem thenRun_onTxBytes_complete (s : State) (f : List Byte → State) (e : ErrCode) :
    thenRun (s.onTxBytes fun bs => (f bs).complete e) = s.onTxBytes fun bs => (f bs).complete e := by
  unfold State.onTxBytes
  split <;> simp only [thenRun, runCommand_complete]

/-- A command is what it does up to its first suspension point, and its run over the events (R107). -/
theorem exec_eq_thenRun_beginCommand (i : Instr) (s : State) : exec i s = thenRun (beginCommand s i) := by
  cases i with
  | nop | cksInit | cksAdd | crcInit | crcAdd | msgPop =>
    exact congrArg Host.Outcome.next (runCommand_complete _ _).symm
  | cksBuf | cksCheck | crcBuf | crcCheck => exact (thenRun_onTxBytes_complete _ _ _).symm
  | stop =>
    simp only [exec, beginCommand, execStop]
    split <;> simp only [thenRun, runCommand_complete]
  | l3Start =>
    simp only [exec, beginCommand, execL3Start]
    split <;> simp only [thenRun, runCommand_complete]
  | l3Stop =>
    simp only [exec, beginCommand, execL3Stop]
    split <;> simp only [thenRun, runCommand_complete]
  | start | send | recv | request | l3Send | l3Recv | l3Keepalive => rfl

/-- Where a command leads: to the run of what it begins. -/
theorem exec_next {i : Instr} {s t : State} (h : exec i s = .next t) :
    ∃ u, beginCommand s i = .next u ∧ t = runCommand u := by
  rw [exec_eq_thenRun_beginCommand] at h
  cases hb : beginCommand s i with
  | next u => rw [hb] at h; cases h; exact ⟨u, rfl, rfl⟩
  | fault f => rw [hb] at h; cases h
  | refused r => rw [hb] at h; cases h

end Sys2Proof.Machine
end

section

/-! ## What a command leaves unchanged -/

namespace Sys2Proof.Machine

/-- What the command `i` leaves of `s` in `t`: the host's registers, TXBUF, the parameters and the fault
state always, every other register unless the rules of `i` name it (R53). -/
structure Frame (i : Instr) (s t : State) : Prop where
  config : t.config = s.config
  addr : t.addr = s.addr
  speed : t.speed = s.speed
  timeout : t.timeout = s.timeout
  txlen : t.txlen = s.txlen
  txbuf : t.txbuf = s.txbuf
  params : t.params = s.params
  readData : t.readData = s.readData
  freeReads : t.freeReads = s.freeReads
  resets : t.resets = s.resets
  modelFault : t.modelFault = s.modelFault
  cksum : i.mnemonic ∈ ["CKS_INIT", "CKS_ADD", "CKS_BUF"] ∨ t.cksum = s.cksum
  crcreg : i.mnemonic ∈ ["CRC_INIT", "CRC_ADD", "CRC_BUF"] ∨ t.crcreg = s.crcreg
  verify : i.mnemonic ∈ ["CKS_CHECK", "CRC_CHECK"] ∨ t.verify = s.verify
  connection : i = .start ∨ t.keybytes = s.keybytes ∧ t.l0flags = s.l0flags ∧ t.flags = s.flags ∧
    t.tp1max = s.tp1max ∧ t.tp2min = s.tp2min ∧ t.tp3min = s.tp3min ∧ t.tp4min = s.tp4min
  link : i ∈ [Instr.start, .stop, .send] ∨ t.link = s.link ∧ t.fastbuf = s.fastbuf
  lasttx : i ∈ [Instr.start, .stop, .send, .request, .l3Send, .l3Keepalive] ∨ t.lasttx = s.lasttx
  msgq : i ∈ [Instr.recv, .request, .msgPop, .l3Recv] ∨ t.msgq = s.msgq
  retries : i ∈ [Instr.recv, .request, .l3Recv, .l3Keepalive] ∨ t.retries = s.retries
  l3active : i ∈ [Instr.l3Start, .l3Stop] ∨ t.l3active = s.l3active
  l3buf : i ∈ [Instr.l3Start, .l3Stop, .l3Recv, .l3Keepalive] ∨ t.l3buf = s.l3buf
  l3idle : i ∈ [Instr.l3Start, .l3Send, .l3Recv, .l3Keepalive] ∨ t.l3idle = s.l3idle

/-- What the engine has done of the command `i` since its last suspension point, at `s`: within the frame
of `i`, with no event taken, no operation recorded and no time passed (R182). -/
structure Stretch (i : Instr) (s t : State) : Prop extends Frame i s t where
  now : t.now = s.now
  history : t.history = s.history
  inputs : t.inputs = s.inputs

/-- A stretch of the command `i` that has come to a suspension point of `i` or to its end. -/
structure StretchEnd (i : Instr) (s t : State) : Prop extends Stretch i s t where
  owned : t.estate.OwnedBy i

theorem Frame.refl (i : Instr) (s : State) : Frame i s s := by
  constructor <;> simp

theorem Stretch.refl (i : Instr) (s : State) : Stretch i s s :=
  ⟨Frame.refl i s, rfl, rfl, rfl⟩

theorem Frame.trans {i : Instr} {s t u : State} (h : Frame i s t) (h' : Frame i t u) :
    Frame i s u := by
  obtain ⟨⟩ := h
  obtain ⟨⟩ := h'
  constructor <;> grind

/-! ### One rule per update -/

section Updates

variable {i : Instr} {s t : State} (h : Stretch i s t)
include h

/-- The engine's own registers are in no command's frame. -/
theorem Stretch.engine (b : Bool) (e : ErrCode) (es : EState) (a : Arb) :
    Stretch i s { t with busy := b, err := e, estate := es, arb := a } := { h with }

theorem Stretch.withLink (hi : i ∈ [Instr.start, .stop, .send]) (l : Link) (f : List Byte) :
    Stretch i s { t with link := l, fastbuf := f } := { h with link := .inl hi }

theorem Stretch.withLasttx
    (hi : i ∈ [Instr.start, .stop, .send, .request, .l3Send, .l3Keepalive])
    (f : Option (List Byte)) : Stretch i s { t with lasttx := f } := { h with lasttx := .inl hi }

theorem Stretch.withMsgq (hi : i ∈ [Instr.recv, .request, .msgPop, .l3Recv]) (q : List Message) :
    Stretch i s { t with msgq := q } := { h with msgq := .inl hi }

theorem Stretch.setRetries (hi : i ∈ [Instr.recv, .request, .l3Recv, .l3Keepalive]) (n : Nat) :
    Stretch i s (t.setRetries n) := { h with retries := .inl hi }

theorem Stretch.withL3buf (hi : i ∈ [Instr.l3Start, .l3Stop, .l3Recv, .l3Keepalive])
    (b : List Byte) : Stretch i s { t with l3buf := b } := { h with l3buf := .inl hi }

theorem Stretch.withL3idle (hi : i ∈ [Instr.l3Start, .l3Send, .l3Recv, .l3Keepalive]) (w : Word) :
    Stretch i s { t with l3idle := w } := { h with l3idle := .inl hi }

theorem Stretch.withL3active (hi : i ∈ [Instr.l3Start, .l3Stop]) (a : Bool) :
    Stretch i s { t with l3active := a } := { h with l3active := .inl hi }

theorem Stretch.complete (e : ErrCode) : StretchEnd i s (t.complete e) :=
  ⟨h.engine false e .idle t.arb, nofun⟩

theorem Stretch.issueAck {k : AckKont} (hk : k.command = i) (op : AckOp) :
    StretchEnd i s (t.issueAck op k) :=
  ⟨h.engine t.busy t.err (.awaitAck op k) op.arb, fun _ hj => hk ▸ (Option.some.inj hj).symm⟩

theorem Stretch.issueRecv {k : RecvKont} (hk : k.command = i) (m n : Nat) :
    StretchEnd i s (t.issueRecv m n k) :=
  ⟨h.engine t.busy t.err (.awaitRecv m n k) .rx, fun _ hj => hk ▸ (Option.some.inj hj).symm⟩

end Updates

end Sys2Proof.Machine
end

section

/-! ## The frame of one stretch of the engine -/

namespace Sys2Proof.Machine

theorem Sender.command_mem_lasttx (c : Sender) :
    c.command ∈ [Instr.start, .stop, .send, .request, .l3Send, .l3Keepalive] := by
  cases c <;> decide

theorem Receiver.command_mem_retries (c : Receiver) :
    c.command ∈ [Instr.recv, .request, .l3Recv, .l3Keepalive] := by
  cases c <;> decide

theorem ByteCaller.command_mem_l3buf (c : ByteCaller) :
    c.command ∈ [Instr.l3Start, .l3Stop, .l3Recv, .l3Keepalive] := by
  cases c <;> decide

theorem ByteCaller.command_mem_l3idle (c : ByteCaller) :
    c.command ∈ [Instr.l3Start, .l3Send, .l3Recv, .l3Keepalive] := by
  cases c <;> decide

/-! ### The receivers -/

section Receivers

variable {s t : State} {c : Receiver} (h : Stretch c.command s t)
include h

/-- `append_msgs` is within the frame of a command that appends. -/
theorem Stretch.appendMsgs {msgs : List Message} {u : State}
    (hc : c.command ∈ [Instr.recv, .request, .msgPop, .l3Recv]) (hu : t.appendMsgs msgs = some u) :
    Stretch c.command s u := by
  obtain ⟨-, rfl⟩ := appendMsgs_eq_some.mp hu
  exact h.withMsgq hc _

theorem deliver_stretch (msgs : List Message) : StretchEnd c.command s (deliver t c msgs) := by
  cases c with
  | recv =>
    simp only [deliver]
    split
    · exact (h.appendMsgs (by decide) ‹_›).complete _
    · exact h.complete _
  | request =>
    simp only [deliver]
    split
    · exact (h.appendMsgs (by decide) ‹_›).complete _
    · exact h.complete _
  | l3Framed =>
    simp only [deliver]
    split
    · exact ((h.appendMsgs (by decide) ‹_›).withL3idle (by decide) _).complete _
    · exact h.complete _
  | keepalive => exact h.complete _

theorem deliverDecoded_stretch (o : Option (List Message)) :
    StretchEnd c.command s (deliverDecoded t c o) := by
  cases o with
  | some msgs => exact deliver_stretch h msgs
  | none => exact h.complete _

theorem enterAccum_stretch (frames : List RxFrame) (cur : List Byte) (ts : Word) :
    StretchEnd c.command s (enterAccum t c frames cur ts) := by
  unfold enterAccum
  split
  · exact h.complete _
  · exact h.issueRecv rfl _ _

theorem onRxWaitFirst_stretch (time : Word) (r : RecvResult) :
    StretchEnd c.command s (onRxWaitFirst t c time r) := by
  cases r with
  | data d => exact enterAccum_stretch h _ _ _
  | err e => exact h.complete _

theorem onRxAccum_stretch (frames : List RxFrame) (cur : List Byte) (ts : Word) (r : RecvResult) :
    StretchEnd c.command s (onRxAccum t c frames cur ts r) := by
  rcases r with d | e
  · exact enterAccum_stretch h _ _ _
  · cases e with
    | timeout => exact h.issueRecv rfl _ _
    | busError | ioError => exact h.complete _

theorem onRxWaitMore_stretch (frames : List RxFrame) (time : Word) (r : RecvResult) :
    StretchEnd c.command s (onRxWaitMore t c frames time r) := by
  rcases r with d | e
  · exact enterAccum_stretch h _ _ _
  · cases e with
    | timeout => exact deliverDecoded_stretch h _
    | busError | ioError => exact h.complete _

theorem onRxRaw_stretch (time : Word) (r : RecvResult) :
    StretchEnd c.command s (onRxRaw t c time r) := by
  cases r with
  | data d => exact deliver_stretch h _
  | err e => exact h.complete _

theorem Stretch.withResends (n : Nat) : Stretch c.command s (t.setRetries n) :=
  h.setRetries c.command_mem_retries n

theorem busRetry_stretch (n : Nat) : StretchEnd c.command s (busRetry t c n) := by
  unfold busRetry
  split
  · exact (h.withResends n).complete _
  · split
    · exact (h.withResends n).complete _
    · exact h.issueAck rfl _

theorem onRx1850_stretch (frames : List RxFrame) (n : Nat) (time : Word) (r : RecvResult) :
    StretchEnd c.command s (onRx1850 t c frames n time r) := by
  rcases r with d | e
  · exact h.issueRecv rfl _ _
  · cases e with
    | timeout =>
      simp only [onRx1850]
      split
      · exact (h.withResends n).complete _
      · exact deliverDecoded_stretch (h.withResends n) _
    | busError => exact busRetry_stretch h n
    | ioError => exact (h.withResends n).complete _

theorem onRx1850Resend_stretch (n : Nat) (r : Option L0Err) :
    StretchEnd c.command s (onRx1850Resend t c n r) := by
  cases r with
  | none => exact h.issueRecv rfl _ _
  | some e => exact (h.withResends n).complete _

theorem beginReceive_stretch : StretchEnd c.command s (beginReceive t c) := by
  unfold beginReceive
  split
  · exact h.issueRecv rfl _ _
  · split
    · exact h.issueRecv rfl _ _
    · exact h.complete _
  · exact h.issueRecv rfl _ _
  · exact h.issueRecv rfl _ _
  · exact h.complete _
  · exact h.complete _

end Receivers

/-! ### The byte path -/

theorem probeStep_eq (s : State) (p : ByteRun) :
    probeStep s p =
      if (byteStep s p).2.2 = true then byteFinish (byteStep s p).1 (byteStep s p).2.1 .badData
      else if (byteStep s p).2.1.produced ≠ [] then
        byteFinish (byteStep s p).1 (byteStep s p).2.1 .ok
      else enterNormal (byteStep s p).1 (byteStep s p).2.1 := by
  unfold probeStep
  obtain ⟨s', p', bad⟩ := byteStep s p
  cases bad <;> rfl

theorem onL3Normal_data (s : State) (p : ByteRun) (d : List Byte) :
    onL3Normal s p (.data d) =
      if (byteStep (s.takeBytes d) p).2.2 = true then
        byteFinish (byteStep (s.takeBytes d) p).1 (byteStep (s.takeBytes d) p).2.1 .badData
      else if (byteStep (s.takeBytes d) p).2.1.produced ≠ [] then
        byteFinish (byteStep (s.takeBytes d) p).1 (byteStep (s.takeBytes d) p).2.1 .ok
      else enterDrain (byteStep (s.takeBytes d) p).1 (byteStep (s.takeBytes d) p).2.1 := by
  simp only [onL3Normal]
  obtain ⟨s', p', bad⟩ := byteStep (s.takeBytes d) p
  cases bad <;> rfl

theorem onL3Drain_data (s : State) (p : ByteRun) (d : List Byte) :
    onL3Drain s p (.data d) =
      if (byteStep (s.takeBytes d) p).2.2 = true then
        byteFinish (byteStep (s.takeBytes d) p).1 (byteStep (s.takeBytes d) p).2.1 .badData
      else enterDrain (byteStep (s.takeBytes d) p).1 (byteStep (s.takeBytes d) p).2.1 := by
  simp only [onL3Drain]
  obtain ⟨s', p', bad⟩ := byteStep (s.takeBytes d) p
  cases bad <;> rfl

theorem l3Read_stretch {i : Instr} {s t : State} (h : Stretch i s t) {k : RecvKont}
    (hk : k.command = i) {onErr : ErrCode → State} (he : ∀ e, StretchEnd i s (onErr e)) (n : Nat) :
    StretchEnd i s (l3Read t n k onErr) := by
  obtain ⟨-, heq⟩ | ⟨-, heq⟩ | ⟨-, heq⟩ := l3Read_cases t n k onErr
  · exact heq ▸ he _
  · exact heq ▸ he _
  · exact heq ▸ h.issueRecv hk _ _

section BytePath

variable {i : Instr} {s t : State} {p : ByteRun} (h : Stretch i s t) (hp : p.caller.command = i)
include h hp

theorem byteFinish_stretch (e : ErrCode) : StretchEnd i s (byteFinish t p e) := by
  unfold byteFinish
  split
  · rename_i hc
    have hi : i ∈ [Instr.recv, .request, .msgPop, .l3Recv] := by
      rw [← hp, hc]
      decide
    exact (h.withMsgq hi _).complete _
  · exact h.complete _

theorem byteStep_stretch :
    Stretch i s (byteStep t p).1 ∧ (byteStep t p).2.1.caller.command = i :=
  ⟨h.withL3buf (hp ▸ p.caller.command_mem_l3buf) _, hp⟩

theorem takeBytes_stretch (d : List Byte) : Stretch i s (t.takeBytes d) :=
  (h.withL3buf (hp ▸ p.caller.command_mem_l3buf) (t.l3buf ++ d)).withL3idle
    (hp ▸ p.caller.command_mem_l3idle) t.now

theorem drainError_stretch (e : ErrCode) : StretchEnd i s (drainError t p e) := by
  unfold drainError
  split <;> exact byteFinish_stretch h hp _

theorem enterDrain_stretch : StretchEnd i s (enterDrain t p) :=
  l3Read_stretch h (k := .l3Drain p) hp (drainError_stretch h hp) _

theorem enterNormal_stretch : StretchEnd i s (enterNormal t p) :=
  l3Read_stretch h (k := .l3Normal p) hp (byteFinish_stretch h hp) _

theorem probeStep_stretch : StretchEnd i s (probeStep t p) := by
  obtain ⟨h', hp'⟩ := byteStep_stretch h hp
  rw [probeStep_eq]
  split
  · exact byteFinish_stretch h' hp' _
  · split
    · exact byteFinish_stretch h' hp' _
    · exact enterNormal_stretch h' hp'

theorem probeError_stretch (e : ErrCode) : StretchEnd i s (probeError t p e) := by
  unfold probeError
  split
  · exact probeStep_stretch h hp
  · exact byteFinish_stretch h hp _

theorem enterProbe_stretch : StretchEnd i s (enterProbe t p) :=
  l3Read_stretch h (k := .l3Probe p) hp (probeError_stretch h hp) _

theorem onL3Probe_stretch (r : RecvResult) : StretchEnd i s (onL3Probe t p r) := by
  cases r with
  | data d => exact probeStep_stretch (takeBytes_stretch h hp d) hp
  | err e => exact probeError_stretch h hp _

theorem onL3Normal_stretch (r : RecvResult) : StretchEnd i s (onL3Normal t p r) := by
  cases r with
  | data d =>
    obtain ⟨h', hp'⟩ := byteStep_stretch (takeBytes_stretch h hp d) hp
    rw [onL3Normal_data]
    split
    · exact byteFinish_stretch h' hp' _
    · split
      · exact byteFinish_stretch h' hp' _
      · exact enterDrain_stretch h' hp'
  | err e => exact byteFinish_stretch h hp _

theorem onL3Drain_stretch (r : RecvResult) : StretchEnd i s (onL3Drain t p r) := by
  cases r with
  | data d =>
    obtain ⟨h', hp'⟩ := byteStep_stretch (takeBytes_stretch h hp d) hp
    rw [onL3Drain_data]
    split
    · exact byteFinish_stretch h' hp' _
    · exact enterDrain_stretch h' hp'
  | err e => exact drainError_stretch h hp _

end BytePath

/-! ### The senders -/

theorem keepaliveReceive_stretch {s t : State} (h : Stretch .l3Keepalive s t) :
    StretchEnd .l3Keepalive s (keepaliveReceive t) := by
  unfold keepaliveReceive
  split
  · exact beginReceive_stretch (c := .keepalive) (h.setRetries (by decide) 0)
  · exact enterProbe_stretch h rfl

section Senders

variable {s t : State} {c : Sender} (h : Stretch c.command s t)
include h

theorem afterEmit_stretch (frame : List Byte) : StretchEnd c.command s (afterEmit t c frame) := by
  have h' := h.withLasttx c.command_mem_lasttx (some frame)
  cases c with
  | send => exact h'.complete _
  | request => exact beginReceive_stretch (c := .request) h'
  | l3Send => exact (h'.withL3idle (by decide) t.now).complete _
  | keepalive => exact keepaliveReceive_stretch (h'.withL3idle (by decide) t.now)

theorem emit_stretch (frame : List Byte) : StretchEnd c.command s (emit t c frame) := by
  unfold emit
  split <;> exact h.issueAck rfl _

theorem l2SendBytes_stretch (bs : List Byte) : StretchEnd c.command s (l2SendBytes t c bs) := by
  obtain ⟨e, -, heq⟩ | ⟨f, -, -, heq⟩ | ⟨f, -, -, heq⟩ := l2SendBytes_cases t c bs
  · exact heq ▸ h.complete _
  · exact heq ▸ h.complete _
  · exact heq ▸ emit_stretch h f

theorem onEmitFrame_stretch (frame : List Byte) (r : Option L0Err) :
    StretchEnd c.command s (onEmitFrame t c frame r) := by
  cases r with
  | none => exact afterEmit_stretch h frame
  | some e => exact h.complete _

end Senders

/-! ### START and the fast-init transaction -/

section Start

variable {s t : State} (h : Stretch .start s t)
include h

/-- START alone writes the connection's registers (R33, R34, R143). -/
theorem Stretch.withConnection (kb : BitVec 16) (lf fl : BitVec 9) (p1 p2 p3 p4 : BitVec 16) :
    Stretch .start s { t with
      keybytes := kb, l0flags := lf, flags := fl, tp1max := p1, tp2min := p2, tp3min := p3,
      tp4min := p4 } :=
  { h with connection := .inl rfl }

theorem loadConnection_stretch (f : BitVec 9) : Stretch .start s (loadConnection t f) := by
  unfold loadConnection
  split
  · exact h.withConnection t.keybytes _ _ _ _ _ _
  · exact h.withConnection t.keybytes _ _ t.tp1max t.tp2min t.tp3min t.tp4min

theorem refineP2_stretch : Stretch .start s (refineP2 t) := by
  unfold refineP2
  split
  · exact h.withConnection t.keybytes t.l0flags t.flags t.tp1max _ t.tp3min t.tp4min
  · split
    · exact h.withConnection t.keybytes t.l0flags t.flags t.tp1max _ t.tp3min t.tp4min
    · exact h

theorem Stretch.withKeybytes (kb : BitVec 16) : Stretch .start s { t with keybytes := kb } :=
  h.withConnection kb t.l0flags t.flags t.tp1max t.tp2min t.tp3min t.tp4min

end Start

section Link

variable {i : Instr} {s t : State} (h : Stretch i s t) (hi : i ∈ [Instr.start, .stop, .send])
include h hi

theorem failDown_stretch (e : ErrCode) : StretchEnd i s (failDown t e) :=
  (h.withLink hi .down t.fastbuf).complete e

theorem linkUp_stretch : StretchEnd i s (linkUp t) :=
  (h.withLink hi .up t.fastbuf).complete .ok

end Link

section StartMachine

variable {s t : State} (h : Stretch .start s t)
include h

theorem start_failDown_stretch (e : ErrCode) : StretchEnd .start s (failDown t e) :=
  failDown_stretch h (by decide) e

theorem start_linkUp_stretch : StretchEnd .start s (linkUp t) := linkUp_stretch h (by decide)

theorem onSetSpeed_stretch (init : InitKind) (r : Option L0Err) :
    StretchEnd .start s (onSetSpeed t init r) := by
  cases r with
  | none =>
    exact ⟨h.engine t.busy t.err (.awaitFlags init) .ctl, fun _ hj => (Option.some.inj hj).symm⟩
  | some e => exact start_failDown_stretch h _

theorem onS5Init_stretch (v : KeyVariant) (r : Option L0Err) :
    StretchEnd .start s (onS5Init t v r) := by
  cases r with
  | none => exact h.issueRecv rfl _ _
  | some e => exact start_failDown_stretch h _

theorem onS5Kb1_stretch (v : KeyVariant) (r : RecvResult) :
    StretchEnd .start s (onS5Kb1 t v r) := by
  cases r with
  | data d => exact (h.withKeybytes _).issueRecv rfl _ _
  | err e => exact start_failDown_stretch h _

theorem onS5TxInv_stretch (v : KeyVariant) (r : Option L0Err) :
    StretchEnd .start s (onS5TxInv t v r) := by
  cases r with
  | none => exact h.issueRecv rfl _ _
  | some e => exact start_failDown_stretch h _

theorem onS5RxInv_stretch (r : RecvResult) : StretchEnd .start s (onS5RxInv t r) := by
  cases r with
  | data d =>
    simp only [onS5RxInv]
    split
    · exact start_linkUp_stretch h
    · exact start_failDown_stretch h _
  | err e => exact start_failDown_stretch h _

end StartMachine

theorem enterFInit_stretch {s t : State} (h : Stretch .send s t) (bs : List Byte) :
    StretchEnd .send s (enterFInit t bs) :=
  (h.withLink (by decide) t.link []).issueAck rfl _

theorem fastAccum_stretch {s t : State} (h : Stretch .send s t) (bs : List Byte) :
    StretchEnd .send s (fastAccum t bs) := by
  unfold fastAccum
  split
  · exact h.complete _
  · split
    · exact h.complete _
    · split
      · exact (h.withLink (by decide) t.link _).complete _
      · exact enterFInit_stretch h _

theorem onFInit_stretch {s t : State} (h : Stretch .send s t) (bs : List Byte) (r : Option L0Err) :
    StretchEnd .send s (onFInit t bs r) := by
  cases r with
  | none => exact linkUp_stretch (h.withLasttx (by decide) (some bs)) (by decide)
  | some e => exact failDown_stretch h (by decide) _

/-! ### The engine acts -/

theorem wake_stretch {s t : State} {k : SleepKont} (h : Stretch k.command s t) :
    StretchEnd k.command s (wake t k) := by
  cases k with
  | s5Idle v => exact h.issueAck rfl _
  | s5W4 v => exact h.issueAck rfl _
  | fIdle => exact (h.withLink (by decide) .fastPending []).complete _
  | emitGap c frame rest => exact h.issueAck rfl _

theorem sleepThen_stretch {s t : State} {k : SleepKont} (h : Stretch k.command s t) (d : Nat) :
    StretchEnd k.command s (sleepThen t d k) := by
  unfold sleepThen
  split
  · exact wake_stretch h
  · exact ⟨h.engine t.busy t.err (.sleeping t.now d k) t.arb, fun _ hj => (Option.some.inj hj).symm⟩

theorem onGetFlags_stretch {s t : State} (h : Stretch .start s t) (f : BitVec 9) (init : InitKind) :
    StretchEnd .start s (onGetFlags t f init) := by
  have h' := loadConnection_stretch h f
  cases init with
  | noInit => exact start_linkUp_stretch h'
  | fiveBaud v =>
    simp only [onGetFlags]
    split
    · exact h'.issueAck rfl _
    · exact start_failDown_stretch h' _
  | fast =>
    simp only [onGetFlags]
    split
    · exact sleepThen_stretch (k := .fIdle) h' _
    · exact start_failDown_stretch h' _

theorem onS5Flush_stretch {s t : State} (h : Stretch .start s t) (v : KeyVariant)
    (r : Option L0Err) : StretchEnd .start s (onS5Flush t v r) := by
  cases r with
  | none => exact sleepThen_stretch (k := .s5Idle v) h _
  | some e => exact start_failDown_stretch h _

theorem s5Check_stretch {s t : State} (h : Stretch .start s t) (v : KeyVariant) :
    StretchEnd .start s (s5Check t v) := by
  unfold s5Check
  split
  · dsimp only
    split
    · exact start_linkUp_stretch (refineP2_stretch h)
    · exact sleepThen_stretch (k := .s5W4 v) (refineP2_stretch h) _
  · exact start_failDown_stretch h _

theorem onS5Kb2_stretch {s t : State} (h : Stretch .start s t) (v : KeyVariant) (r : RecvResult) :
    StretchEnd .start s (onS5Kb2 t v r) := by
  cases r with
  | data d => exact s5Check_stretch (h.withKeybytes _) v
  | err e => exact start_failDown_stretch h _

theorem onEmitByte_stretch {s t : State} {c : Sender} (h : Stretch c.command s t)
    (frame rest : List Byte) (r : Option L0Err) :
    StretchEnd c.command s (onEmitByte t c frame rest r) := by
  cases r with
  | none =>
    simp only [onEmitByte]
    split
    · exact afterEmit_stretch h frame
    · exact sleepThen_stretch (k := .emitGap c frame rest) h _
  | some e => exact h.complete _

theorem onAck_stretch {s t : State} {k : AckKont} (h : Stretch k.command s t) (r : Option L0Err) :
    StretchEnd k.command s (onAck t r k) := by
  cases k with
  | startSetSpeed init => exact onSetSpeed_stretch h init r
  | s5Flush v => exact onS5Flush_stretch h v r
  | s5Init v => exact onS5Init_stretch h v r
  | s5TxInv v => exact onS5TxInv_stretch h v r
  | fInit bytes => exact onFInit_stretch h bytes r
  | emitFrame c frame => exact onEmitFrame_stretch h frame r
  | emitByte c frame rest => exact onEmitByte_stretch h frame rest r
  | rx1850Resend c n => exact onRx1850Resend_stretch h n r

theorem onRecv_stretch {s t : State} {k : RecvKont} (h : Stretch k.command s t) (r : RecvResult)
    (time : Word) : StretchEnd k.command s (onRecv t r time k) := by
  cases k with
  | s5Kb1 v => exact onS5Kb1_stretch h v r
  | s5Kb2 v => exact onS5Kb2_stretch h v r
  | s5RxInv v => exact onS5RxInv_stretch h r
  | rxWaitFirst c => exact onRxWaitFirst_stretch h time r
  | rxAccum c frames cur ts => exact onRxAccum_stretch h frames cur ts r
  | rxWaitMore c frames => exact onRxWaitMore_stretch h frames time r
  | rxRaw c => exact onRxRaw_stretch h time r
  | rx1850 c frames n => exact onRx1850_stretch h frames n time r
  | l3Probe p => exact onL3Probe_stretch h rfl r
  | l3Normal p => exact onL3Normal_stretch h rfl r
  | l3Drain p => exact onL3Drain_stretch h rfl r

/-- The engine acts within the frame of the command that runs (R53, R182). -/
theorem act_stretch {i : Instr} {s : State} (hs : s.estate.OwnedBy i) : StretchEnd i s (act s) := by
  have own {j : Instr} (hj : s.estate.command = some j) : Stretch j s s ∧ j = i :=
    ⟨Stretch.refl j s, hs j hj⟩
  have stay : StretchEnd i s s := ⟨Stretch.refl i s, hs⟩
  unfold act
  split
  · exact stay
  · exact stay
  · exact stay
  · exact stay
  · exact stay
  · rename_i r k he
    obtain ⟨h, rfl⟩ := own (congrArg EState.command he)
    exact onAck_stretch h r
  · rename_i f init he
    obtain ⟨h, rfl⟩ := own (congrArg EState.command he)
    exact onGetFlags_stretch h f init
  · rename_i r time k he
    obtain ⟨h, rfl⟩ := own (congrArg EState.command he)
    exact onRecv_stretch h r time
  · rename_i t0 d k he
    split
    · obtain ⟨h, rfl⟩ := own (congrArg EState.command he)
      exact wake_stretch h
    · exact stay

end Sys2Proof.Machine
end

section

/-! ## The frame and the clock of every command -/

namespace Sys2Proof.Machine

/-- A command on the bytes of TXBUF begins within its frame where it does so for every bytes (R116). -/
theorem onTxBytes_stretch {i : Instr} {s t u : State} {k : List Byte → State} (h : Stretch i s t)
    (hk : ∀ bs, StretchEnd i s (k bs)) (hu : t.onTxBytes k = .next u) : StretchEnd i s u := by
  obtain rfl | ⟨bs, -, rfl⟩ := onTxBytes_next hu
  · exact h.complete _
  · exact hk bs

theorem l2Send_stretch {c : Sender} {s t u : State} (h : Stretch c.command s t)
    (hu : l2Send t c = .next u) : StretchEnd c.command s u := by
  unfold l2Send at hu
  split at hu
  · cases hu
    exact h.complete _
  · exact onTxBytes_stretch h (l2SendBytes_stretch h) hu

theorem beginStart_stretch (s : State) : StretchEnd .start s (beginStart s) := by
  have h := Stretch.refl .start s
  unfold beginStart
  split
  · exact h.complete _
  · split
    · exact (((h.withKeybytes 0).withLink (by decide) s.link []).withLasttx (by decide) none).issueAck
        rfl _
    · exact h.complete _

theorem execStop_stretch {s u : State} (hu : execStop s = .next u) : StretchEnd .stop s u := by
  have h := Stretch.refl .stop s
  unfold execStop at hu
  split at hu <;> cases hu
  · exact h.complete _
  · exact ((h.withLink (by decide) .down []).withLasttx (by decide) none).complete _

theorem beginSend_stretch {s u : State} (hu : beginSend s = .next u) : StretchEnd .send s u := by
  have h := Stretch.refl .send s
  unfold beginSend at hu
  split at hu
  · cases hu
    exact h.complete _
  · exact onTxBytes_stretch h (fastAccum_stretch h) hu
  · exact l2Send_stretch (c := .send) h hu

theorem beginRecv_stretch (s : State) : StretchEnd .recv s (beginRecv s) := by
  have h := Stretch.refl .recv s
  unfold beginRecv
  split
  · exact h.complete _
  · exact beginReceive_stretch (c := .recv) (h.setRetries (by decide) 0)

theorem beginRequest_stretch {s u : State} (hu : beginRequest s = .next u) :
    StretchEnd .request s u := by
  have h := Stretch.refl .request s
  unfold beginRequest at hu
  split at hu
  · cases hu
    exact h.complete _
  · exact l2Send_stretch (c := .request) (h.setRetries (by decide) 0) hu

theorem execL3Start_stretch {s u : State} (hu : execL3Start s = .next u) :
    StretchEnd .l3Start s u := by
  have h := Stretch.refl .l3Start s
  unfold execL3Start at hu
  split at hu <;> cases hu
  · exact h.complete _
  · exact (((h.withL3active (by decide) true).withL3buf (by decide) []).withL3idle (by decide)
      s.now).complete _

theorem execL3Stop_stretch {s u : State} (hu : execL3Stop s = .next u) :
    StretchEnd .l3Stop s u := by
  have h := Stretch.refl .l3Stop s
  unfold execL3Stop at hu
  split at hu <;> cases hu
  · exact ((h.withL3active (by decide) false).withL3buf (by decide) []).complete _
  · exact h.complete _

theorem beginL3Send_stretch {s u : State} (hu : beginL3Send s = .next u) :
    StretchEnd .l3Send s u := by
  have h := Stretch.refl .l3Send s
  unfold beginL3Send at hu
  split at hu
  · exact l2Send_stretch (c := .l3Send) h hu
  · cases hu
    exact h.complete _

theorem beginL3Recv_stretch (s : State) : StretchEnd .l3Recv s (beginL3Recv s) := by
  have h := Stretch.refl .l3Recv s
  unfold beginL3Recv
  split
  · split
    · exact h.complete _
    · have h' := h.setRetries (by decide) 0
      dsimp only
      split
      · exact beginReceive_stretch (c := .l3Framed) h'
      · exact enterProbe_stretch h' rfl
  · exact h.complete _

theorem beginL3Keepalive_stretch (s : State) : StretchEnd .l3Keepalive s (beginL3Keepalive s) := by
  have h := Stretch.refl .l3Keepalive s
  unfold beginL3Keepalive
  split
  · split
    · exact h.complete _
    · split
      · exact h.complete _
      · exact l2SendBytes_stretch (c := .keepalive) h _
  · exact h.complete _

/-- The accumulators and VERIFY, by the commands that name them (R117 to R124). -/
theorem Stretch.withCksum {i : Instr} {s t : State} (h : Stretch i s t)
    (hi : i.mnemonic ∈ ["CKS_INIT", "CKS_ADD", "CKS_BUF"]) (b : Byte) :
    Stretch i s { t with cksum := b } := { h with cksum := .inl hi }

theorem Stretch.withCrcreg {i : Instr} {s t : State} (h : Stretch i s t)
    (hi : i.mnemonic ∈ ["CRC_INIT", "CRC_ADD", "CRC_BUF"]) (b : Byte) :
    Stretch i s { t with crcreg := b } := { h with crcreg := .inl hi }

theorem Stretch.withVerify {i : Instr} {s t : State} (h : Stretch i s t)
    (hi : i.mnemonic ∈ ["CKS_CHECK", "CRC_CHECK"]) (v : Bool) :
    Stretch i s { t with verify := v } := { h with verify := .inl hi }

/-- Every command begins within its frame. -/
theorem beginCommand_stretch {i : Instr} {s u : State} (hu : beginCommand s i = .next u) :
    StretchEnd i s u := by
  have h := Stretch.refl i s
  cases i with
  | nop => cases hu; exact h.complete _
  | cksInit => cases hu; exact (h.withCksum (by decide) _).complete _
  | cksAdd b => cases hu; exact (h.withCksum (by simp [Instr.mnemonic]) _).complete _
  | cksBuf => exact onTxBytes_stretch h (fun bs => (h.withCksum (by decide) _).complete _) hu
  | cksCheck => exact onTxBytes_stretch h (fun bs => (h.withVerify (by decide) _).complete _) hu
  | crcInit => cases hu; exact (h.withCrcreg (by decide) _).complete _
  | crcAdd b => cases hu; exact (h.withCrcreg (by simp [Instr.mnemonic]) _).complete _
  | crcBuf => exact onTxBytes_stretch h (fun bs => (h.withCrcreg (by decide) _).complete _) hu
  | crcCheck => exact onTxBytes_stretch h (fun bs => (h.withVerify (by decide) _).complete _) hu
  | start => cases hu; exact beginStart_stretch s
  | stop => exact execStop_stretch hu
  | send => exact beginSend_stretch hu
  | recv => cases hu; exact beginRecv_stretch s
  | request => exact beginRequest_stretch hu
  | msgPop => cases hu; exact (h.withMsgq (by decide) _).complete _
  | l3Start => exact execL3Start_stretch hu
  | l3Stop => exact execL3Stop_stretch hu
  | l3Send => exact beginL3Send_stretch hu
  | l3Recv => cases hu; exact beginL3Recv_stretch s
  | l3Keepalive => cases hu; exact beginL3Keepalive_stretch s

/-! ### The run -/

theorem Frame.tick {i : Instr} {s t : State} (h : Frame i s t) : Frame i s t.tick := { h with }

theorem Frame.settle {i : Instr} {s t : State} (h : Frame i s t) (op : L0Op) (a : L0Answer)
    (n : EState) : Frame i s (t.settle op a n) := { h with }

theorem Frame.withInputs {i : Instr} {s t : State} (h : Frame i s t) (evs : List Input) :
    Frame i s { t with inputs := evs } := { h with }

/-- An answer settles the operation in flight: the sub-state goes on waiting for the same command, and
no register of a frame is written (R62). -/
theorem answer_frame {i : Instr} {s t : State} (h : Frame i s t) (ho : t.estate.OwnedBy i)
    (a : L0Answer) : Frame i s (t.answer a) ∧ (t.answer a).estate.OwnedBy i := by
  obtain heq | ⟨op, k, he, ⟨-, heq⟩ | ⟨e, -, -, heq⟩⟩ | ⟨init, f, he, -, heq⟩ |
    ⟨m, n, k, he, ⟨d, -, -, -, heq⟩ | ⟨e, -, heq⟩⟩ := answer_cases t a
  · rw [heq]; exact ⟨h, ho⟩
  all_goals
    rw [he] at ho
    rw [heq]
    exact ⟨h.settle _ _ _, ho⟩

/-- The run of a command stays within its frame. -/
theorem runOver_frame {i : Instr} {s u : State} (h : Frame i s u) (ho : u.estate.OwnedBy i)
    (evs : List Input) : Frame i s (runOver evs u) := by
  have hrun := runOver_induct (fun t => Frame i s t ∧ t.estate.OwnedBy i)
    (fun t evs ⟨hf, ho⟩ => ⟨hf.withInputs evs, ho⟩)
    (fun t ⟨hf, ho⟩ => ⟨hf.tick, ho⟩)
    (fun t a ⟨hf, ho⟩ => answer_frame hf ho a)
    (fun t ⟨hf, ho⟩ => ⟨hf.trans (act_stretch ho).toFrame, (act_stretch ho).owned⟩)
    evs u ⟨h, ho⟩
  exact hrun.1

theorem exec_frame {i : Instr} {s t : State} (h : exec i s = .next t) : Frame i s t := by
  obtain ⟨u, hu, rfl⟩ := exec_next h
  have hb := beginCommand_stretch hu
  exact runOver_frame hb.toFrame hb.owned _

/-- A command of rule R109's list completes at once: no operation, no sleep and no event. -/
theorem exec_completes_at_once {i : Instr} (hi : i.mnemonic ∈ Claims.localCommands) {s t : State}
    (h : exec i s = .next t) :
    t.history = s.history ∧ t.arb = s.arb ∧ t.now = s.now ∧ t.inputs = s.inputs := by
  have onBuffer {f : List Byte → State} (hu : s.onTxBytes f = .next t)
      (hf : ∀ bs, (f bs).history = s.history ∧ (f bs).arb = s.arb ∧ (f bs).now = s.now ∧
        (f bs).inputs = s.inputs) :
      t.history = s.history ∧ t.arb = s.arb ∧ t.now = s.now ∧ t.inputs = s.inputs := by
    obtain rfl | ⟨bs, -, rfl⟩ := onTxBytes_next hu
    · exact ⟨rfl, rfl, rfl, rfl⟩
    · exact hf bs
  cases i with
  | nop | cksInit | cksAdd | crcInit | crcAdd | msgPop => cases h; exact ⟨rfl, rfl, rfl, rfl⟩
  | cksBuf | cksCheck | crcBuf | crcCheck => exact onBuffer h fun _ => ⟨rfl, rfl, rfl, rfl⟩
  | stop =>
    simp only [exec, execStop] at h
    split at h <;> cases h <;> exact ⟨rfl, rfl, rfl, rfl⟩
  | l3Start =>
    simp only [exec, execL3Start] at h
    split at h <;> cases h <;> exact ⟨rfl, rfl, rfl, rfl⟩
  | l3Stop =>
    simp only [exec, execL3Stop] at h
    split at h <;> cases h <;> exact ⟨rfl, rfl, rfl, rfl⟩
  | start | send | recv | request | l3Send | l3Recv | l3Keepalive => exact absurd hi (by decide)

/-- Settles O60: the frame of the begun command, which the induction over its run keeps. -/
theorem frameOfEveryCommand : Obligations.FrameOfEveryCommand := by
  intro i s t h
  have hf := exec_frame h
  exact ⟨⟨hf.config, hf.addr, hf.speed, hf.timeout, hf.txlen, fun a => by rw [hf.txbuf], hf.params,
      hf.readData, hf.freeReads, hf.resets, hf.modelFault⟩, hf.cksum, hf.crcreg, hf.verify,
    hf.connection, hf.link, hf.lasttx, hf.msgq, hf.retries, hf.l3active, hf.l3buf, hf.l3idle,
    fun hi => exec_completes_at_once hi h⟩

/-! ### The clock -/

/-- The engine acts in no time and takes no event. -/
theorem act_stretch_self (s : State) : ∃ i, StretchEnd i s (act s) := by
  cases hc : s.estate.command with
  | none => exact ⟨.nop, act_stretch fun j hj => by rw [hc] at hj; cases hj⟩
  | some i => exact ⟨i, act_stretch fun j hj => by rw [hc] at hj; exact (Option.some.inj hj).symm⟩

theorem act_now (s : State) : (act s).now = s.now := by
  obtain ⟨i, h⟩ := act_stretch_self s
  exact h.now

theorem act_history (s : State) : (act s).history = s.history := by
  obtain ⟨i, h⟩ := act_stretch_self s
  exact h.history

theorem answer_now (s : State) (a : L0Answer) : (s.answer a).now = s.now := by
  obtain heq | ⟨op, k, -, ⟨-, heq⟩ | ⟨e, -, -, heq⟩⟩ | ⟨init, f, -, -, heq⟩ |
    ⟨m, n, k, -, ⟨d, -, -, -, heq⟩ | ⟨e, -, heq⟩⟩ := answer_cases s a
  · rw [heq]
  all_goals
    rw [heq]
    rfl

/-- An event that a running command takes moves NOW by the tick that it is, if it is one (R45). -/
theorem engineEvent_now {s t : State} {ev : Input} (h : engineEvent s ev = some t) :
    t.now = s.now + BitVec.ofNat 32 ([ev].count .tick) := by
  cases ev with
  | tick => cases h; rfl
  | answer a =>
    cases h
    simp [answer_now]
  | engine =>
    cases h
    simp [act_now]
  | reset | hostRead | hostWrite => cases h

/-- A run takes a first part of the events and moves NOW by its ticks (R45). -/
theorem runOver_takes (evs : List Input) (s : State) :
    ∃ taken, evs = taken ++ (runOver evs s).inputs ∧
      (runOver evs s).now = s.now + BitVec.ofNat 32 (taken.count .tick) := by
  induction evs generalizing s with
  | nil => exact ⟨[], rfl, by simp [runOver]⟩
  | cons ev rest ih =>
    have stop : ∃ taken, ev :: rest = taken ++ (ev :: rest) ∧
        s.now = s.now + BitVec.ofNat 32 (taken.count .tick) := ⟨[], rfl, by simp⟩
    cases hr : s.estate.running with
    | false => rw [runOver_of_not_running hr]; exact stop
    | true =>
      cases he : engineEvent s ev with
      | none => rw [runOver_suspended he]; exact stop
      | some s' =>
        rw [runOver_cons hr he]
        obtain ⟨taken, htaken, hnow⟩ := ih s'
        refine ⟨ev :: taken, congrArg (ev :: ·) htaken, ?_⟩
        have hcount : (ev :: taken).count .tick = [ev].count .tick + taken.count .tick :=
          List.count_append (l₁ := [ev])
        rw [hnow, engineEvent_now he, hcount, BitVec.ofNat_add, BitVec.add_assoc]

/-- Settles O14: a tick by the step rule of its event, a command by the events that its run takes. -/
theorem nowCountsTicks : Obligations.NowCountsTicks := by
  refine ⟨fun s rest hf hi => ?_, fun i s t h => ?_⟩
  · rw [step_event hf hi]
    rfl
  · obtain ⟨u, hu, rfl⟩ := exec_next h
    have hb := beginCommand_stretch hu
    obtain ⟨taken, htaken, hnow⟩ := runOver_takes u.inputs u
    exact ⟨taken, hb.inputs ▸ htaken, hb.now ▸ hnow⟩

end Sys2Proof.Machine
end

section

/-! ## The invariant: the registers, and the engine on top of them -/

namespace Sys2Proof.Machine

/-- The part of the invariant of the block that does not speak of the engine state. -/
structure RegsInv (s : State) : Prop where
  l3_up : s.l3active = true → s.link = .up
  l3_empty : s.l3active = false → s.l3buf = []
  l3_len : s.l3buf.length ≤ Config.l3bufCap
  msgq_len : s.msgq.length ≤ Config.msgqCap
  msgq_ok : ∀ m ∈ s.msgq, MessageOk m
  fastbuf_len : s.fastbuf.length < Config.fastInitLen
  fastbuf_pending : s.link ≠ .fastPending → s.fastbuf = []
  lasttx_ne : ∀ f, s.lasttx = some f → f ≠ []
  txbuf_wf : s.txbuf.wf = true
  err_ne : s.err ≠ .incompleteData
  retries_le : s.retries.toNat ≤ Config.busRetryMax
  config_legal : s.link ≠ .down → (selectInit s.proto s.initMode).isSome = true
  config_fast : s.link = .fastPending → selectInit s.proto s.initMode = some .fast
  flags_merged : s.link ≠ .down → FlagsMerged s

/-- The engine acts on a running command: BUSY is 1, no operation is in flight, and the registers meet
the invariant, whatever the sub-state it came from. -/
structure Acting (s : State) : Prop extends RegsInv s where
  busy : s.busy = true
  arb : s.arb = .idle

theorem BlockInv.regs {s : State} (h : BlockInv s) : RegsInv s := { h with }

theorem BlockInv.acting {s : State} (h : BlockInv s) (he : s.estate ≠ .idle)
    (ha : s.estate.arb = .idle) : Acting s :=
  { h.regs with busy := h.busy_iff.mpr he, arb := h.arb_eq.trans ha }

/-- The invariant looks at none of the model's own fields, the clock, the parameters and VERIFY. -/
theorem BlockInv.withRecord {s : State} (h : BlockInv s) (n : Word) (f : Option Fault)
    (es : List L0Event) (d : Word) (evs : List Input) (k r : Nat) (p : Params) :
    BlockInv { s with
      now := n, modelFault := f, history := es, readData := d, inputs := evs, freeReads := k,
      resets := r, params := p } :=
  { h with }

theorem BlockInv.withInputs {s : State} (h : BlockInv s) (evs : List Input) :
    BlockInv { s with inputs := evs } := { h with }

/-- A session needs a link that is UP (R256). -/
theorem RegsInv.no_session {s : State} (h : RegsInv s) (hl : s.link ≠ .up) : s.l3active = false := by
  cases ha : s.l3active with
  | false => rfl
  | true => exact absurd (h.l3_up ha) hl

/-! ### Where a stretch of the engine ends -/

section Ends

variable {s : State} (h : Acting s)
include h

theorem Acting.complete {e : ErrCode} (he : e ≠ .incompleteData) : BlockInv (s.complete e) :=
  { h.toRegsInv with
    err_ne := he
    busy_iff := by simp
    arb_eq := h.arb
    estate_ok := trivial }

/-- The engine issues an operation (R180). -/
theorem Acting.await {e : EState} (he : e ≠ .idle) (hok : EStateOk s e) :
    BlockInv { s with estate := e, arb := e.arb } :=
  { h.toRegsInv with
    busy_iff := by simp [h.busy, he]
    arb_eq := rfl
    estate_ok := hok }

theorem Acting.issueAck {op : AckOp} {k : AckKont} (hk : AckKontOk s k) (hop : OpOk (.ack op)) :
    BlockInv (s.issueAck op k) :=
  h.await (e := .awaitAck op k) nofun ⟨hk, hop⟩

theorem Acting.issueFlags {init : InitKind} (hi : StartOk s init) : BlockInv (s.issueFlags init) :=
  h.await (e := .awaitFlags init) nofun hi

theorem Acting.issueRecv {m : Nat} (t : Nat) {k : RecvKont} (hk : RecvKontOk s k)
    (hm : m = recvRoom s k) : BlockInv (s.issueRecv m t k) :=
  h.await (e := .awaitRecv m t k) nofun ⟨hk, hm⟩

theorem Acting.sleep (t0 : Word) (d : Nat) {k : SleepKont} (hk : SleepKontOk s k) :
    BlockInv { s with estate := .sleeping t0 d k } :=
  { h.toRegsInv with
    busy_iff := by simp [h.busy]
    arb_eq := h.arb
    estate_ok := hk }

/-! ### One rule per update -/

theorem Acting.setRetries {n : Nat} (hn : n ≤ Config.busRetryMax) : Acting (s.setRetries n) :=
  { h with retries_le := (Nat.mod_le n _).trans hn }

theorem Acting.withMsgq {q : List Message} (hq : q.length ≤ Config.msgqCap)
    (hm : ∀ m ∈ q, MessageOk m) : Acting { s with msgq := q } :=
  { h with msgq_len := hq, msgq_ok := hm }

theorem Acting.withLasttx {f : Option (List Byte)} (hf : ∀ g, f = some g → g ≠ []) :
    Acting { s with lasttx := f } :=
  { h with lasttx_ne := hf }

theorem Acting.withL3idle (w : Word) : Acting { s with l3idle := w } := { h with }

theorem Acting.withL3buf (ha : s.l3active = true) {b : List Byte} (hb : b.length ≤ Config.l3bufCap) :
    Acting { s with l3buf := b } :=
  { h with
    l3_len := hb
    l3_empty := fun hn => absurd (ha.symm.trans hn) (by decide) }

theorem Acting.withKeybytes (kb : BitVec 16) : Acting { s with keybytes := kb } := { h with }

theorem Acting.withTp2min (t : BitVec 16) : Acting { s with tp2min := t } := { h with }

/-- Messages taken into MSGQ all at once (R217). -/
theorem Acting.append {msgs : List Message} (hq : s.msgq.length + msgs.length ≤ Config.msgqCap)
    (hm : ∀ m ∈ msgs, MessageOk m) : Acting { s with msgq := s.msgq ++ msgs } := by
  refine h.withMsgq (by simpa using hq) fun m hmem => ?_
  obtain hin | hin := List.mem_append.mp hmem
  · exact h.msgq_ok m hin
  · exact hm m hin

/-- The link goes UP under a legal pair whose flags are loaded (R145, R155, R163). -/
theorem Acting.linkUp (hc : (selectInit s.proto s.initMode).isSome = true) (hm : FlagsMerged s)
    (hf : s.fastbuf = []) : BlockInv (linkUp s) :=
  Acting.complete (s := { s with link := .up })
    { h with
      l3_up := fun _ => rfl
      fastbuf_pending := fun _ => hf
      config_legal := fun _ => hc
      config_fast := nofun
      flags_merged := fun _ => hm } nofun

/-- The link goes DOWN where it is not UP, so that no session is left without it (R143, R156, R164). -/
theorem Acting.failDown (hl : s.link ≠ .up) (hf : s.fastbuf = []) {e : ErrCode}
    (he : e ≠ .incompleteData) : BlockInv (failDown s e) :=
  Acting.complete (s := { s with link := .down })
    { h with
      l3_up := fun ha => absurd (h.l3_up ha) hl
      fastbuf_pending := fun _ => hf
      config_legal := fun hn => absurd rfl hn
      config_fast := nofun
      flags_merged := fun hn => absurd rfl hn } he

end Ends

/-- An L0 error is never IncompleteData (R61). -/
theorem toCode_ne_incompleteData (e : L0Err) : e.toCode ≠ .incompleteData := by
  cases e <;> decide

end Sys2Proof.Machine
end

section

/-! ## What is received is in bounds -/

namespace Sys2Proof.Machine

/-- No message of the block sets FUNCTIONAL_ADDRESSING (R41). -/
theorem framedDataFlags_not_functional : framedDataFlags.getLsbD 3 = false := by decide

theorem framedFlags_not_functional : framedFlags.getLsbD 3 = false := by decide

theorem noFlags_not_functional : noFlags.getLsbD 3 = false := by decide

theorem strippedMsg_ok {p : List Byte} (hp : p.length ≤ Config.frameCap) (cl : Nat) (ts : Word) :
    MessageOk (strippedMsg cl p ts) := by
  refine ⟨?_, framedDataFlags_not_functional⟩
  simp only [strippedMsg, List.length_drop, List.length_take]
  omega

theorem check9141_ok {st : State} {p : List Byte} {ts : Word} {m : Message}
    (hp : p.length ≤ Config.frameCap) (h : check9141 st p ts = some m) : MessageOk m := by
  simp only [check9141] at h
  split at h
  · cases h
  · split at h
    · cases h
    · split at h <;> cases h
      exact strippedMsg_ok hp _ _

theorem check1850_ok {st : State} {f : RxFrame} {m : Message} (hf : FrameOk f)
    (h : check1850 st f = some m) : MessageOk m := by
  simp only [check1850] at h
  split at h
  · cases h
  · split at h <;> cases h
    exact strippedMsg_ok hf.2 _ _

/-- The pieces of a split frame are no longer than the frame (R198). -/
theorem splitFrame_ok {st : State} {ts : Word} (fuel : Nat) {rest : List Byte} {ms : List Message}
    (hr : rest.length ≤ Config.frameCap) (h : splitFrame st ts fuel rest = some ms) :
    ∀ m ∈ ms, MessageOk m := by
  induction fuel generalizing rest ms with
  | zero => cases h; exact List.forall_mem_nil _
  | succ fuel ih =>
    have htake : (rest.take (pieceLen st rest)).length ≤ Config.frameCap := by
      rw [List.length_take]; omega
    have hdrop : (rest.drop (pieceLen st rest)).length ≤ Config.frameCap := by
      rw [List.length_drop]; omega
    simp only [splitFrame] at h
    split at h
    · cases h
    · rename_i m₀ hm₀
      have hok := check9141_ok htake hm₀
      split at h
      · cases h
        simpa using hok
      · split at h
        · cases h
        · rename_i ms' hms'
          cases h
          exact List.forall_mem_cons.mpr ⟨hok, ih hdrop hms'⟩

theorem decode9141_ok {st : State} {frames : List RxFrame} {ms : List Message}
    (hf : ∀ f ∈ frames, FrameOk f) (h : decode9141 st frames = some ms) :
    ∀ m ∈ ms, MessageOk m := by
  induction frames generalizing ms with
  | nil => cases h; exact List.forall_mem_nil _
  | cons f fs ih =>
    obtain ⟨hhead, htail⟩ := List.forall_mem_cons.mp hf
    simp only [decode9141] at h
    split at h
    · rename_i ms₁ ms₂ h₁ h₂
      cases h
      exact List.forall_mem_append.mpr ⟨splitFrame_ok _ hhead.2 h₁, ih htail h₂⟩
    · cases h

theorem decode1850_ok {st : State} {frames : List RxFrame} {ms : List Message}
    (hf : ∀ f ∈ frames, FrameOk f) (h : decode1850 st frames = some ms) :
    ∀ m ∈ ms, MessageOk m := by
  induction frames generalizing ms with
  | nil => cases h; exact List.forall_mem_nil _
  | cons f fs ih =>
    obtain ⟨hhead, htail⟩ := List.forall_mem_cons.mp hf
    simp only [decode1850] at h
    split at h
    · rename_i m₁ ms₂ h₁ h₂
      cases h
      exact List.forall_mem_cons.mpr ⟨check1850_ok hhead h₁, ih htail h₂⟩
    · cases h

/-- The messages sliced from L3BUF are no longer than L3BUF (R247, R249). -/
theorem reassemble_ok (p : Params) (now : Word) (room : Nat) {buf : List Byte}
    (hb : buf.length ≤ Config.l3bufCap) : ∀ m ∈ (reassemble p now room buf).out, MessageOk m := by
  induction room generalizing buf with
  | zero => exact List.forall_mem_nil _
  | succ room ih =>
    simp only [reassemble]
    split
    · exact List.forall_mem_nil _
    · exact List.forall_mem_singleton.mpr ⟨Nat.zero_le _, noFlags_not_functional⟩
    · rename_i n hn
      split
      · exact List.forall_mem_nil _
      · have htake : (buf.take n).length ≤ Config.frameCap := by
          rw [List.length_take]
          exact (Nat.min_le_right _ _).trans hb
        have hdrop : (buf.drop n).length ≤ Config.l3bufCap := by
          rw [List.length_drop]
          exact (Nat.sub_le _ _).trans hb
        exact List.forall_mem_cons.mpr ⟨⟨htake, framedFlags_not_functional⟩, ih hdrop⟩

/-! ## The invariant over one stretch of the engine -/

/-! ### The byte path -/

section BytePathInv

variable {s : State} {p : ByteRun} (h : Acting s) (hp : ByteRunOk s p)
include h hp

theorem byteFinish_inv {e : ErrCode} (he : e ≠ .incompleteData) : BlockInv (byteFinish s p e) := by
  obtain ⟨-, -, hroom, hqueue, hok⟩ := hp
  unfold byteFinish
  split
  · rename_i hc
    have := hqueue hc
    exact (h.append (by omega) hok).complete he
  · exact h.complete he

/-- A turn of the reassembly keeps the run and the registers in bounds (R247, R253). -/
theorem byteStep_inv :
    Acting (byteStep s p).1 ∧ ByteRunOk (byteStep s p).1 (byteStep s p).2.1 := by
  obtain ⟨hlink, hact, hroom, hqueue, hok⟩ := hp
  obtain ⟨hout, hbuf⟩ :=
    reassemble_bounds s.params s.now (p.room - p.produced.length) s.l3buf
  refine ⟨h.withL3buf hact (hbuf.trans h.l3_len), hlink, hact, ?_, hqueue,
    List.forall_mem_append.mpr ⟨hok, reassemble_ok _ _ _ h.l3_len⟩⟩
  simp only [byteStep, List.length_append]
  omega

/-- The bytes of a read fit in L3BUF (R253). -/
theorem takeBytes_inv {d : List Byte} (hd : d.length ≤ Config.l3bufCap - s.l3buf.length) :
    Acting (s.takeBytes d) ∧ ByteRunOk (s.takeBytes d) p := by
  have hlen : (s.l3buf ++ d).length ≤ Config.l3bufCap := by
    have := h.l3_len
    rw [List.length_append]
    omega
  exact ⟨(h.withL3buf hp.2.1 hlen).withL3idle s.now, hp⟩

omit hp in
theorem l3Read_inv (t : Nat) {k : RecvKont} {onErr : ErrCode → State}
    (hk : s.l3buf.length < Config.l3bufCap → RecvKontOk s k)
    (hm : Config.l3bufCap - s.l3buf.length = recvRoom s k)
    (he : ∀ e, e ≠ .incompleteData → BlockInv (onErr e)) : BlockInv (l3Read s t k onErr) := by
  obtain ⟨-, heq⟩ | ⟨-, heq⟩ | ⟨hfree, heq⟩ := l3Read_cases s t k onErr
  · exact heq ▸ he _ (by decide)
  · exact heq ▸ he _ (by decide)
  · exact heq ▸ h.issueRecv t (hk hfree) hm

theorem drainError_inv {e : ErrCode} (he : e ≠ .incompleteData) : BlockInv (drainError s p e) := by
  unfold drainError
  split
  · exact byteFinish_inv h hp (by decide)
  · exact byteFinish_inv h hp he

theorem enterDrain_inv : BlockInv (enterDrain s p) :=
  l3Read_inv h _ (fun hfree => ⟨hp, hfree⟩) rfl fun _ he => drainError_inv h hp he

theorem enterNormal_inv : BlockInv (enterNormal s p) :=
  l3Read_inv h _ (fun hfree => ⟨hp, hfree⟩) rfl fun _ he => byteFinish_inv h hp he

theorem probeStep_inv : BlockInv (probeStep s p) := by
  obtain ⟨h', hp'⟩ := byteStep_inv h hp
  rw [probeStep_eq]
  split
  · exact byteFinish_inv h' hp' (by decide)
  · split
    · exact byteFinish_inv h' hp' (by decide)
    · exact enterNormal_inv h' hp'

theorem probeError_inv {e : ErrCode} (he : e ≠ .incompleteData) : BlockInv (probeError s p e) := by
  unfold probeError
  split
  · exact probeStep_inv h hp
  · exact byteFinish_inv h hp he

theorem enterProbe_inv : BlockInv (enterProbe s p) :=
  l3Read_inv h _ (fun hfree => ⟨hp, hfree⟩) rfl fun _ he => probeError_inv h hp he

end BytePathInv

/-- A read that the invariant admits for a sub-state: its bytes, if there are any, are at least one and
no more than asked for (R58). -/
def ResultFits (s : State) (k : RecvKont) : RecvResult → Prop
  | .data d => 1 ≤ d.length ∧ d.length ≤ recvRoom s k
  | .err _ => True

section BytePathAnswers

variable {s : State} {p : ByteRun} (h : Acting s) (hp : ByteRunOk s p)
include h hp

theorem onL3Probe_inv {r : RecvResult} (hr : ResultFits s (.l3Probe p) r) :
    BlockInv (onL3Probe s p r) := by
  cases r with
  | data d =>
    obtain ⟨h', hp'⟩ := takeBytes_inv h hp hr.2
    exact probeStep_inv h' hp'
  | err e => exact probeError_inv h hp (toCode_ne_incompleteData e)

theorem onL3Normal_inv {r : RecvResult} (hr : ResultFits s (.l3Normal p) r) :
    BlockInv (onL3Normal s p r) := by
  cases r with
  | data d =>
    obtain ⟨h₁, hp₁⟩ := takeBytes_inv h hp hr.2
    obtain ⟨h', hp'⟩ := byteStep_inv h₁ hp₁
    rw [onL3Normal_data]
    split
    · exact byteFinish_inv h' hp' (by decide)
    · split
      · exact byteFinish_inv h' hp' (by decide)
      · exact enterDrain_inv h' hp'
  | err e => exact byteFinish_inv h hp (toCode_ne_incompleteData e)

theorem onL3Drain_inv {r : RecvResult} (hr : ResultFits s (.l3Drain p) r) :
    BlockInv (onL3Drain s p r) := by
  cases r with
  | data d =>
    obtain ⟨h₁, hp₁⟩ := takeBytes_inv h hp hr.2
    obtain ⟨h', hp'⟩ := byteStep_inv h₁ hp₁
    rw [onL3Drain_data]
    split
    · exact byteFinish_inv h' hp' (by decide)
    · exact enterDrain_inv h' hp'
  | err e => exact drainError_inv h hp (toCode_ne_incompleteData e)

end BytePathAnswers

/-! ### The receivers -/

theorem deliver_inv {s : State} (h : Acting s) (c : Receiver) {msgs : List Message}
    (hm : ∀ m ∈ msgs, MessageOk m) : BlockInv (deliver s c msgs) := by
  have appended {u : State} (hu : s.appendMsgs msgs = some u) : Acting u := by
    obtain ⟨hlen, rfl⟩ := appendMsgs_eq_some.mp hu
    exact h.append hlen hm
  cases c with
  | recv | request =>
    simp only [deliver]
    split
    · exact (appended ‹_›).complete (by decide)
    · exact h.complete (by decide)
  | l3Framed =>
    simp only [deliver]
    split
    · exact ((appended ‹_›).withL3idle _).complete (by decide)
    · exact h.complete (by decide)
  | keepalive => exact h.complete (by decide)

theorem deliverDecoded_inv {s : State} (h : Acting s) (c : Receiver) {o : Option (List Message)}
    (hm : ∀ msgs, o = some msgs → ∀ m ∈ msgs, MessageOk m) : BlockInv (deliverDecoded s c o) := by
  cases o with
  | some msgs => exact deliver_inv h c (hm msgs rfl)
  | none => exact h.complete (by decide)

section ReceiversInv

variable {s : State} {c : Receiver} (h : Acting s) (hc : ReceiverOk s c)
include h hc

theorem enterAccum_inv {frames : List RxFrame} (hf : ∀ f ∈ frames, FrameOk f) {cur : List Byte}
    (hcur : 1 ≤ cur.length) (ts : Word) : BlockInv (enterAccum s c frames cur ts) := by
  unfold enterAccum
  split
  · exact h.complete (by decide)
  · exact h.issueRecv _ ⟨hc, hf, hcur, by omega⟩ rfl

theorem onRxWaitFirst_inv (time : Word) {r : RecvResult} (hr : ResultFits s (.rxWaitFirst c) r) :
    BlockInv (onRxWaitFirst s c time r) := by
  cases r with
  | data d => exact enterAccum_inv h hc (List.forall_mem_nil _) hr.1 _
  | err e => exact h.complete (toCode_ne_incompleteData e)

theorem onRxAccum_inv {frames : List RxFrame} (hf : ∀ f ∈ frames, FrameOk f) {cur : List Byte}
    (hcur : 1 ≤ cur.length) (hcap : cur.length < Config.frameCap) (ts : Word) (r : RecvResult) :
    BlockInv (onRxAccum s c frames cur ts r) := by
  rcases r with d | e
  · exact enterAccum_inv h hc hf (by rw [List.length_append]; omega) _
  · cases e with
    | timeout =>
      exact h.issueRecv _ ⟨hc, List.forall_mem_append.mpr
        ⟨hf, List.forall_mem_singleton.mpr ⟨hcur, hcap.le⟩⟩⟩ rfl
    | busError | ioError => exact h.complete (by decide)

theorem onRxWaitMore_inv {frames : List RxFrame} (hf : ∀ f ∈ frames, FrameOk f) (time : Word)
    {r : RecvResult} (hr : ResultFits s (.rxWaitMore c frames) r) :
    BlockInv (onRxWaitMore s c frames time r) := by
  rcases r with d | e
  · exact enterAccum_inv h hc hf hr.1 _
  · cases e with
    | timeout => exact deliverDecoded_inv h c fun _ hd => decode9141_ok hf hd
    | busError | ioError => exact h.complete (by decide)

omit hc in
theorem onRxRaw_inv (time : Word) {r : RecvResult} (hr : ResultFits s (.rxRaw c) r) :
    BlockInv (onRxRaw s c time r) := by
  cases r with
  | data d => exact deliver_inv h c (List.forall_mem_singleton.mpr ⟨hr.2, noFlags_not_functional⟩)
  | err e => exact h.complete (toCode_ne_incompleteData e)

theorem busRetry_inv {n : Nat} (hn : n ≤ Config.busRetryMax) : BlockInv (busRetry s c n) := by
  unfold busRetry
  split
  · exact (h.setRetries hn).complete (by decide)
  · split
    · exact (h.setRetries hn).complete (by decide)
    · rename_i f hf
      exact h.issueAck ⟨hc, by omega⟩ (h.lasttx_ne f hf)

theorem onRx1850_inv {frames : List RxFrame} (hf : ∀ f ∈ frames, FrameOk f) {n : Nat}
    (hn : n ≤ Config.busRetryMax) (time : Word) {r : RecvResult}
    (hr : ResultFits s (.rx1850 c frames n) r) : BlockInv (onRx1850 s c frames n time r) := by
  rcases r with d | e
  · exact h.issueRecv _ ⟨hc, List.forall_mem_append.mpr
      ⟨hf, List.forall_mem_singleton.mpr hr⟩, hn⟩ rfl
  · cases e with
    | timeout =>
      simp only [onRx1850]
      split
      · exact (h.setRetries hn).complete (by decide)
      · exact deliverDecoded_inv (h.setRetries hn) c fun _ hd => decode1850_ok hf hd
    | busError => exact busRetry_inv h hc hn
    | ioError => exact (h.setRetries hn).complete (by decide)

theorem onRx1850Resend_inv {n : Nat} (hn : n ≤ Config.busRetryMax) (r : Option L0Err) :
    BlockInv (onRx1850Resend s c n r) := by
  cases r with
  | none => exact h.issueRecv _ ⟨hc, List.forall_mem_nil _, hn⟩ rfl
  | some e => exact (h.setRetries hn).complete (toCode_ne_incompleteData e)

theorem beginReceive_inv : BlockInv (beginReceive s c) := by
  unfold beginReceive
  split
  · exact h.issueRecv _ hc rfl
  · split
    · exact h.issueRecv _ ⟨hc, List.forall_mem_nil _, Nat.zero_le _⟩ rfl
    · exact h.complete (by decide)
  · exact h.issueRecv _ hc rfl
  · exact h.issueRecv _ hc rfl
  · exact h.complete (by decide)
  · exact h.complete (by decide)

end ReceiversInv

/-! ### The senders -/

/-- A framer refuses with BadLength or ProtocolNotSupported (R185 to R188). -/
theorem frameFor_error_ne {s : State} {bs : List Byte} {e : ErrCode} (h : frameFor s bs = .error e) :
    e ≠ .incompleteData := by
  have raw (hr : frameRaw bs = .error e) : e ≠ .incompleteData := by
    unfold frameRaw at hr
    split at hr <;> cases hr
    decide
  unfold frameFor at h
  split at h
  · unfold frame9141 at h
    split at h <;> cases h
    decide
  · unfold frame1850 at h
    split at h <;> cases h
    decide
  · exact raw h
  · exact raw h
  · cases h; decide
  · cases h; decide

/-- A framer that accepts a payload gives at least one byte (R185 to R187). -/
theorem frameFor_ne_nil {s : State} {bs f : List Byte} (h : frameFor s bs = .ok f) : f ≠ [] := by
  have raw {g : List Byte} (hr : frameRaw bs = .ok g) : g ≠ [] := by
    unfold frameRaw at hr
    split at hr <;> cases hr
    rename_i hlen
    rintro rfl
    exact hlen (by decide)
  unfold frameFor at h
  split at h
  · unfold frame9141 at h
    split at h <;> cases h
    split <;> simp
  · unfold frame1850 at h
    split at h <;> cases h
    split <;> simp
  · exact raw h
  · exact raw h
  · cases h
  · cases h

theorem keepaliveReceive_inv {s : State} (h : Acting s) (hc : SenderOk s .keepalive) :
    BlockInv (keepaliveReceive s) := by
  obtain ⟨hlink, hsession⟩ := hc
  have hact := hsession (.inr rfl)
  unfold keepaliveReceive
  split
  · exact beginReceive_inv (h.setRetries (Nat.zero_le _)) ⟨hlink, fun _ => hact⟩
  · exact enterProbe_inv h ⟨hlink, hact, Nat.zero_le _, nofun, List.forall_mem_nil _⟩

section SendersInv

variable {s : State} {c : Sender} (h : Acting s) (hc : SenderOk s c)
include h hc

theorem afterEmit_inv {frame : List Byte} (hf : frame ≠ []) : BlockInv (afterEmit s c frame) := by
  have h' : Acting { s with lasttx := some frame } := h.withLasttx fun g hg => Option.some.inj hg ▸ hf
  cases c with
  | send => exact h'.complete (by decide)
  | request => exact beginReceive_inv h' ⟨hc.1, by simp⟩
  | l3Send => exact (h'.withL3idle _).complete (by decide)
  | keepalive => exact keepaliveReceive_inv (h'.withL3idle _) hc

theorem emit_inv {frame : List Byte} (hf : frame ≠ []) : BlockInv (emit s c frame) := by
  unfold emit
  split
  · exact h.issueAck ⟨hc, hf⟩ (by simpa [OpOk] using hf)
  · exact h.issueAck ⟨hc, hf⟩ hf

theorem l2SendBytes_inv (bs : List Byte) : BlockInv (l2SendBytes s c bs) := by
  obtain ⟨e, hfr, heq⟩ | ⟨f, -, -, heq⟩ | ⟨f, hfr, -, heq⟩ := l2SendBytes_cases s c bs
  · exact heq ▸ h.complete (frameFor_error_ne hfr)
  · exact heq ▸ h.complete (by decide)
  · exact heq ▸ emit_inv h hc (frameFor_ne_nil hfr)

theorem onEmitFrame_inv {frame : List Byte} (hf : frame ≠ []) (r : Option L0Err) :
    BlockInv (onEmitFrame s c frame r) := by
  cases r with
  | none => exact afterEmit_inv h hc hf
  | some e => exact h.complete (toCode_ne_incompleteData e)

theorem emitNext_inv {frame rest : List Byte} (hf : frame ≠ []) (hr : rest ≠ []) :
    BlockInv (emitNext s c frame rest) :=
  h.issueAck ⟨hc, hf⟩ (by simpa [OpOk] using hr)

end SendersInv

end Sys2Proof.Machine
end

section

/-! ### START and the fast-init transaction -/

namespace Sys2Proof.Machine

section StartInv

variable {s : State} {init : InitKind} (h : Acting s) (hs : StartLoaded s init)
include h hs

/-- While a START runs the link is DOWN, so FASTBUF is empty and no session is active (R48, R141). -/
theorem start_failDown_inv {e : ErrCode} (he : e ≠ .incompleteData) : BlockInv (failDown s e) := by
  obtain ⟨⟨hlink, -⟩, -⟩ := hs
  exact h.failDown (by simp [hlink]) (h.fastbuf_pending (by simp [hlink])) he

theorem start_linkUp_inv : BlockInv (linkUp s) := by
  obtain ⟨⟨hlink, hsel⟩, hmerged⟩ := hs
  exact h.linkUp (by simp [hsel]) hmerged (h.fastbuf_pending (by simp [hlink]))

/-- The key bytes may change TP2MIN, which the invariant does not name (R152). -/
theorem refineP2_inv : Acting (refineP2 s) ∧ StartLoaded (refineP2 s) init := by
  unfold refineP2
  split
  · exact ⟨h.withTp2min _, hs⟩
  · split
    · exact ⟨h.withTp2min _, hs⟩
    · exact ⟨h, hs⟩

end StartInv

theorem onSetSpeed_inv {s : State} (h : Acting s) {init : InitKind} (hs : StartOk s init)
    (r : Option L0Err) : BlockInv (onSetSpeed s init r) := by
  obtain ⟨hlink, -⟩ := id hs
  cases r with
  | none => exact h.issueFlags hs
  | some e =>
    exact h.failDown (by simp [hlink]) (h.fastbuf_pending (by simp [hlink]))
      (toCode_ne_incompleteData e)

/-- START loads the merged set of the current protocol (R29, R143). -/
theorem loadConnection_inv {s : State} (h : Acting s) {init : InitKind} (hs : StartOk s init)
    (f : BitVec 9) : Acting (loadConnection s f) ∧ StartLoaded (loadConnection s f) init := by
  unfold loadConnection
  split
  · rename_i p hp
    have hmerged (q : Proto) (hq : s.proto = some q) : f ||| declared p = f ||| declared q := by
      rw [Option.some.inj (hp.symm.trans hq)]
    exact ⟨{ h with flags_merged := fun _ => hmerged }, hs, hmerged⟩
  · rename_i hp
    have hmerged (q : Proto) (hq : s.proto = some q) : f = f ||| declared q := by
      rw [hp] at hq
      cases hq
    exact ⟨{ h with flags_merged := fun _ => hmerged }, hs, hmerged⟩

section FiveBaud

variable {s : State} {v : KeyVariant} (h : Acting s) (hs : StartLoaded s (.fiveBaud v))
include h hs

theorem onS5Init_inv (r : Option L0Err) : BlockInv (onS5Init s v r) := by
  cases r with
  | none => exact h.issueRecv _ hs rfl
  | some e => exact start_failDown_inv h hs (toCode_ne_incompleteData e)

theorem onS5Kb1_inv (r : RecvResult) : BlockInv (onS5Kb1 s v r) := by
  cases r with
  | data d => exact (h.withKeybytes _).issueRecv _ hs rfl
  | err e => exact start_failDown_inv h hs (toCode_ne_incompleteData e)

theorem onS5TxInv_inv (r : Option L0Err) : BlockInv (onS5TxInv s v r) := by
  cases r with
  | none => exact h.issueRecv _ hs rfl
  | some e => exact start_failDown_inv h hs (toCode_ne_incompleteData e)

theorem onS5RxInv_inv (r : RecvResult) : BlockInv (onS5RxInv s r) := by
  cases r with
  | data d =>
    simp only [onS5RxInv]
    split
    · exact start_linkUp_inv h hs
    · exact start_failDown_inv h hs (by decide)
  | err e => exact start_failDown_inv h hs (toCode_ne_incompleteData e)

end FiveBaud

theorem empty_fastbuf_len : ([] : List Byte).length < Config.fastInitLen := by decide

theorem onFInit_inv {s : State} (h : Acting s) {bs : List Byte} (hl : s.link = .fastPending)
    (hb : bs.length = Config.fastInitLen) (hf : s.fastbuf = []) (r : Option L0Err) :
    BlockInv (onFInit s bs r) := by
  have hup : s.link ≠ .down := by simp [hl]
  cases r with
  | none =>
    have hne : bs ≠ [] := List.ne_nil_of_length_pos (hb ▸ by decide)
    have h' : Acting { s with lasttx := some bs } := h.withLasttx fun g hg => Option.some.inj hg ▸ hne
    exact h'.linkUp (h.config_legal hup) (h.flags_merged hup) hf
  | some e => exact h.failDown (by simp [hl]) hf (toCode_ne_incompleteData e)

/-- The bytes of a SEND on a FAST_PENDING link stay below FAST_INIT_LEN or make up the transaction
(R162). -/
theorem fastAccum_inv {s : State} (h : Acting s) (hl : s.link = .fastPending) (bs : List Byte) :
    BlockInv (fastAccum s bs) := by
  unfold fastAccum
  split
  · exact h.complete (by decide)
  · split
    · exact h.complete (by decide)
    · split
      · rename_i hlen
        exact Acting.complete (s := { s with fastbuf := s.fastbuf ++ bs })
          { h with
            fastbuf_len := by simpa using hlen
            fastbuf_pending := fun hn => absurd hl hn } (by decide)
      · have hlen : (s.fastbuf ++ bs).length = Config.fastInitLen := by
          rw [List.length_append]
          omega
        exact Acting.issueAck (s := { s with fastbuf := [] })
          { h with fastbuf_len := empty_fastbuf_len, fastbuf_pending := fun _ => rfl } ⟨hl, hlen, rfl⟩ hlen

/-! ### The engine acts -/

theorem wake_inv {s : State} (h : Acting s) {k : SleepKont} (hk : SleepKontOk s k) :
    BlockInv (wake s k) := by
  cases k with
  | s5Idle v => exact h.issueAck hk rfl
  | s5W4 v => exact h.issueAck hk (List.cons_ne_nil _ _)
  | fIdle =>
    obtain ⟨⟨hlink, hsel⟩, hmerged⟩ := hk
    have hoff := h.no_session (by simp [hlink])
    exact Acting.complete (s := { s with fastbuf := [], link := .fastPending })
      { h with
        l3_up := fun ha => absurd (ha.symm.trans hoff) (by decide)
        fastbuf_len := empty_fastbuf_len
        fastbuf_pending := fun _ => rfl
        config_legal := fun _ => Option.isSome_of_eq_some hsel
        config_fast := fun _ => hsel
        flags_merged := fun _ => hmerged } (by decide)
  | emitGap c frame rest =>
    obtain ⟨hc, hframe, hrest⟩ := hk
    exact emitNext_inv h hc hframe hrest

theorem sleepThen_inv {s : State} (h : Acting s) (d : Nat) {k : SleepKont} (hk : SleepKontOk s k) :
    BlockInv (sleepThen s d k) := by
  unfold sleepThen
  split
  · exact wake_inv h hk
  · exact h.sleep _ _ hk

theorem onGetFlags_inv {s : State} (h : Acting s) {init : InitKind} (hs : StartOk s init)
    (f : BitVec 9) : BlockInv (onGetFlags s f init) := by
  obtain ⟨h', hs'⟩ := loadConnection_inv h hs f
  cases init with
  | noInit => exact start_linkUp_inv h' hs'
  | fiveBaud v =>
    simp only [onGetFlags]
    split
    · exact h'.issueAck hs' trivial
    · exact start_failDown_inv h' hs' (by decide)
  | fast =>
    simp only [onGetFlags]
    split
    · exact sleepThen_inv h' _ hs'
    · exact start_failDown_inv h' hs' (by decide)

section FiveBaudSleeps

variable {s : State} {v : KeyVariant} (h : Acting s) (hs : StartLoaded s (.fiveBaud v))
include h hs

theorem onS5Flush_inv (r : Option L0Err) : BlockInv (onS5Flush s v r) := by
  cases r with
  | none => exact sleepThen_inv h _ hs
  | some e => exact start_failDown_inv h hs (toCode_ne_incompleteData e)

theorem s5Check_inv : BlockInv (s5Check s v) := by
  unfold s5Check
  split
  · obtain ⟨h', hs'⟩ := refineP2_inv h hs
    dsimp only
    split
    · exact start_linkUp_inv h' hs'
    · exact sleepThen_inv h' _ hs'
  · exact start_failDown_inv h hs (by decide)

theorem onS5Kb2_inv (r : RecvResult) : BlockInv (onS5Kb2 s v r) := by
  cases r with
  | data d => exact s5Check_inv (h.withKeybytes _) hs
  | err e => exact start_failDown_inv h hs (toCode_ne_incompleteData e)

end FiveBaudSleeps

theorem onEmitByte_inv {s : State} (h : Acting s) {c : Sender} (hc : SenderOk s c)
    {frame : List Byte} (hf : frame ≠ []) (rest : List Byte) (r : Option L0Err) :
    BlockInv (onEmitByte s c frame rest r) := by
  cases r with
  | none =>
    simp only [onEmitByte]
    split
    · exact afterEmit_inv h hc hf
    · exact sleepThen_inv h _ ⟨hc, hf, ‹_›⟩
  | some e => exact h.complete (toCode_ne_incompleteData e)

theorem onAck_inv {s : State} (h : Acting s) {k : AckKont} (hk : AckKontOk s k) (r : Option L0Err) :
    BlockInv (onAck s r k) := by
  cases k with
  | startSetSpeed init => exact onSetSpeed_inv h hk r
  | s5Flush v => exact onS5Flush_inv h hk r
  | s5Init v => exact onS5Init_inv h hk r
  | s5TxInv v => exact onS5TxInv_inv h hk r
  | fInit bytes =>
    obtain ⟨hl, hb, hf⟩ := hk
    exact onFInit_inv h hl hb hf r
  | emitFrame c frame =>
    obtain ⟨hc, hf⟩ := hk
    exact onEmitFrame_inv h hc hf r
  | emitByte c frame rest =>
    obtain ⟨hc, hf⟩ := hk
    exact onEmitByte_inv h hc hf rest r
  | rx1850Resend c n =>
    obtain ⟨hc, hn⟩ := hk
    exact onRx1850Resend_inv h hc hn r

theorem onRecv_inv {s : State} (h : Acting s) {k : RecvKont} (hk : RecvKontOk s k) {r : RecvResult}
    (hr : ResultFits s k r) (time : Word) : BlockInv (onRecv s r time k) := by
  cases k with
  | s5Kb1 v => exact onS5Kb1_inv h hk r
  | s5Kb2 v => exact onS5Kb2_inv h hk r
  | s5RxInv v => exact onS5RxInv_inv h hk r
  | rxWaitFirst c => exact onRxWaitFirst_inv h hk time hr
  | rxAccum c frames cur ts =>
    obtain ⟨hc, hf, hcur, hcap⟩ := hk
    exact onRxAccum_inv h hc hf hcur hcap ts r
  | rxWaitMore c frames =>
    obtain ⟨hc, hf⟩ := hk
    exact onRxWaitMore_inv h hc hf time hr
  | rxRaw c => exact onRxRaw_inv h time hr
  | rx1850 c frames n =>
    obtain ⟨hc, hf, hn⟩ := hk
    exact onRx1850_inv h hc hf hn time hr
  | l3Probe p => exact onL3Probe_inv h hk.1 hr
  | l3Normal p => exact onL3Normal_inv h hk.1 hr
  | l3Drain p => exact onL3Drain_inv h hk.1 hr

/-- An answered read waits with a result that fits what it asked for (R58). -/
theorem answeredRecv_ok_iff {s : State} {r : RecvResult} {time : Word} {k : RecvKont} :
    EStateOk s (.answeredRecv r time k) ↔ RecvKontOk s k ∧ ResultFits s k r := by
  cases r <;> simp [EStateOk, ResultFits]

theorem act_inv {s : State} (h : BlockInv s) : BlockInv (act s) := by
  have acting {e : EState} (he : s.estate = e) (hne : e ≠ .idle) (ha : e.arb = .idle) :
      Acting s ∧ EStateOk s e :=
    ⟨h.acting (he ▸ hne) (he ▸ ha), he ▸ h.estate_ok⟩
  unfold act
  split
  · exact h
  · exact h
  · exact h
  · exact h
  · exact h
  · rename_i r k he
    obtain ⟨hs, hk⟩ := acting he nofun rfl
    exact onAck_inv hs hk r
  · rename_i f init he
    obtain ⟨hs, hk⟩ := acting he nofun rfl
    exact onGetFlags_inv hs hk f
  · rename_i r time k he
    obtain ⟨hs, hk⟩ := acting he nofun rfl
    obtain ⟨hk, hr⟩ := answeredRecv_ok_iff.mp hk
    exact onRecv_inv hs hk hr time
  · rename_i t0 d k he
    split
    · obtain ⟨hs, hk⟩ := acting he nofun rfl
      exact wake_inv hs hk
    · exact h

/-! ## The invariant over a whole command -/

theorem onTxBytes_inv {s u : State} (h : Acting s) {k : List Byte → State}
    (hk : ∀ bs, BlockInv (k bs)) (hu : s.onTxBytes k = .next u) : BlockInv u := by
  obtain rfl | ⟨bs, -, rfl⟩ := onTxBytes_next hu
  · exact h.complete (by decide)
  · exact hk bs

theorem l2Send_inv {s u : State} (h : Acting s) {c : Sender} (hc : SenderOk s c)
    (hu : l2Send s c = .next u) : BlockInv u := by
  unfold l2Send at hu
  split at hu
  · cases hu
    exact h.complete (by decide)
  · exact onTxBytes_inv h (l2SendBytes_inv h hc) hu

theorem beginStart_inv {s : State} (h : Acting s) : BlockInv (beginStart s) := by
  unfold beginStart
  split
  · exact h.complete (by decide)
  · rename_i hlink
    split
    · rename_i init hsel
      exact Acting.issueAck (s := { s with keybytes := 0, fastbuf := [], lasttx := none })
        { h with
          fastbuf_len := empty_fastbuf_len
          fastbuf_pending := fun _ => rfl
          lasttx_ne := nofun } ⟨not_not.mp hlink, hsel⟩ trivial
    · exact h.complete (by decide)

theorem execStop_inv {s u : State} (h : Acting s) (hu : execStop s = .next u) : BlockInv u := by
  unfold execStop at hu
  split at hu <;> cases hu
  · exact h.complete (by decide)
  · rename_i hoff
    exact Acting.complete (s := { s with link := .down, fastbuf := [], lasttx := none })
      { h with
        l3_up := fun ha => absurd ha hoff
        fastbuf_len := empty_fastbuf_len
        fastbuf_pending := fun _ => rfl
        lasttx_ne := nofun
        config_legal := fun hn => absurd rfl hn
        config_fast := nofun
        flags_merged := fun hn => absurd rfl hn } (by decide)

theorem beginSend_inv {s u : State} (h : Acting s) (hu : beginSend s = .next u) : BlockInv u := by
  unfold beginSend at hu
  split at hu
  · cases hu
    exact h.complete (by decide)
  · rename_i hlink
    exact onTxBytes_inv h (fastAccum_inv h hlink) hu
  · rename_i hlink
    exact l2Send_inv h (c := .send) ⟨hlink, by simp⟩ hu

theorem beginRecv_inv {s : State} (h : Acting s) : BlockInv (beginRecv s) := by
  unfold beginRecv
  split
  · exact h.complete (by decide)
  · rename_i hlink
    exact beginReceive_inv (h.setRetries (Nat.zero_le _)) ⟨not_not.mp hlink, by simp⟩

theorem beginRequest_inv {s u : State} (h : Acting s) (hu : beginRequest s = .next u) :
    BlockInv u := by
  unfold beginRequest at hu
  split at hu
  · cases hu
    exact h.complete (by decide)
  · rename_i hlink
    exact l2Send_inv (h.setRetries (Nat.zero_le _)) (c := .request) ⟨not_not.mp hlink, by simp⟩ hu

theorem execMsgPop_inv {s u : State} (h : Acting s) (hu : execMsgPop s = .next u) : BlockInv u := by
  cases hu
  have hlen : s.msgq.tail.length ≤ Config.msgqCap := by
    rw [List.length_tail]
    exact (Nat.sub_le _ _).trans h.msgq_len
  exact (h.withMsgq hlen fun m hm => h.msgq_ok m (List.mem_of_mem_tail hm)).complete (by decide)

theorem execL3Start_inv {s u : State} (h : Acting s) (hu : execL3Start s = .next u) :
    BlockInv u := by
  unfold execL3Start at hu
  split at hu <;> cases hu
  · exact h.complete (by decide)
  · rename_i hn
    obtain ⟨-, hlink⟩ := not_or.mp hn
    exact Acting.complete (s := { s with l3active := true, l3buf := [], l3idle := s.now })
      { h with
        l3_up := fun _ => not_not.mp hlink
        l3_empty := fun _ => rfl
        l3_len := Nat.zero_le _ } (by decide)

theorem execL3Stop_inv {s u : State} (h : Acting s) (hu : execL3Stop s = .next u) :
    BlockInv u := by
  unfold execL3Stop at hu
  split at hu <;> cases hu
  · exact Acting.complete (s := { s with l3active := false, l3buf := [] })
      { h with
        l3_up := nofun
        l3_empty := fun _ => rfl
        l3_len := Nat.zero_le _ } (by decide)
  · exact h.complete (by decide)

theorem beginL3Send_inv {s u : State} (h : Acting s) (hu : beginL3Send s = .next u) :
    BlockInv u := by
  unfold beginL3Send at hu
  split at hu
  · rename_i hact
    exact l2Send_inv h (c := .l3Send) ⟨h.l3_up hact, fun _ => hact⟩ hu
  · cases hu
    exact h.complete (by decide)

theorem beginL3Recv_inv {s : State} (h : Acting s) : BlockInv (beginL3Recv s) := by
  unfold beginL3Recv
  split
  · rename_i hact
    split
    · exact h.complete (by decide)
    · have h' := h.setRetries (Nat.zero_le _)
      have hlink := h.l3_up hact
      dsimp only
      split
      · exact beginReceive_inv h' ⟨hlink, fun _ => hact⟩
      · have hfit : s.msgq.length + (Config.msgqCap - s.msgq.length) ≤ Config.msgqCap := by omega
        exact enterProbe_inv h'
          ⟨hlink, hact, Nat.zero_le _, fun _ => hfit, List.forall_mem_nil _⟩
  · exact h.complete (by decide)

theorem beginL3Keepalive_inv {s : State} (h : Acting s) : BlockInv (beginL3Keepalive s) := by
  unfold beginL3Keepalive
  split
  · rename_i hact
    split
    · exact h.complete (by decide)
    · split
      · exact h.complete (by decide)
      · exact l2SendBytes_inv h (c := .keepalive) ⟨h.l3_up hact, fun _ => hact⟩ _
  · exact h.complete (by decide)

/-- The accumulators and VERIFY are in no clause of the invariant. -/
theorem Acting.withAccumulators {s : State} (h : Acting s) (ck crc : Byte) (v : Bool) :
    Acting { s with cksum := ck, crcreg := crc, verify := v } := { h with }

/-- Every command begins within the invariant. -/
theorem beginCommand_inv {i : Instr} {s u : State} (h : Acting s)
    (hu : beginCommand s i = .next u) : BlockInv u := by
  have accumulate (ck crc : Byte) (v : Bool) :
      BlockInv ({ s with cksum := ck, crcreg := crc, verify := v }.complete .ok) :=
    (h.withAccumulators ck crc v).complete (by decide)
  cases i with
  | nop => cases hu; exact h.complete (by decide)
  | cksInit => cases hu; exact accumulate _ s.crcreg s.verify
  | cksAdd b => cases hu; exact accumulate _ s.crcreg s.verify
  | cksBuf => exact onTxBytes_inv h (fun bs => accumulate _ s.crcreg s.verify) hu
  | cksCheck => exact onTxBytes_inv h (fun bs => accumulate s.cksum s.crcreg _) hu
  | crcInit => cases hu; exact accumulate s.cksum _ s.verify
  | crcAdd b => cases hu; exact accumulate s.cksum _ s.verify
  | crcBuf => exact onTxBytes_inv h (fun bs => accumulate s.cksum _ s.verify) hu
  | crcCheck => exact onTxBytes_inv h (fun bs => accumulate s.cksum s.crcreg _) hu
  | start => cases hu; exact beginStart_inv h
  | stop => exact execStop_inv h hu
  | send => exact beginSend_inv h hu
  | recv => cases hu; exact beginRecv_inv h
  | request => exact beginRequest_inv h hu
  | msgPop => exact execMsgPop_inv h hu
  | l3Start => exact execL3Start_inv h hu
  | l3Stop => exact execL3Stop_inv h hu
  | l3Send => exact beginL3Send_inv h hu
  | l3Recv => cases hu; exact beginL3Recv_inv h
  | l3Keepalive => cases hu; exact beginL3Keepalive_inv h

end Sys2Proof.Machine
end

section

/-! ## The invariant and the wire over a step -/

namespace Sys2Proof.Machine

/-! ### The record of the wire -/

/-- An operation of the record met its contract, and so did its answer (R58 to R60). -/
def EventOk (e : L0Event) : Prop := OpOk e.op ∧ ∀ a, e.answer = some a → Claims.AnswerOk e.op a

/-- A record goes on from another one, by operations that met their contracts. -/
def Extends (old new : List L0Event) : Prop := ∃ es, new = old ++ es ∧ ∀ e ∈ es, EventOk e

theorem Extends.refl (es : List L0Event) : Extends es es :=
  ⟨[], (List.append_nil es).symm, List.forall_mem_nil _⟩

theorem Extends.snoc {old new : List L0Event} (h : Extends old new) {e : L0Event} (he : EventOk e) :
    Extends old (new ++ [e]) := by
  obtain ⟨es, rfl, hes⟩ := h
  exact ⟨es ++ [e], List.append_assoc _ _ _,
    List.forall_mem_append.mpr ⟨hes, List.forall_mem_singleton.mpr he⟩⟩

theorem RecvKontOk.recvRoom_pos {s : State} {k : RecvKont} (h : RecvKontOk s k) :
    1 ≤ recvRoom s k := by
  cases k with
  | s5Kb1 | s5Kb2 | s5RxInv => exact Nat.le_refl 1
  | rxWaitFirst | rxWaitMore | rxRaw | rx1850 => exact Nat.le_of_ble_eq_true rfl
  | rxAccum c frames cur ts =>
    obtain ⟨-, -, -, hcap⟩ := h
    exact Nat.sub_pos_of_lt hcap
  | l3Probe | l3Normal | l3Drain => exact Nat.sub_pos_of_lt h.2

/-- The operation in flight meets its contract. -/
theorem BlockInv.inFlight_ok {s : State} (h : BlockInv s) {op : L0Op}
    (hop : s.estate.inFlight = some op) : OpOk op := by
  have hok := h.estate_ok
  cases he : s.estate with
  | awaitAck op k =>
    rw [he] at hok hop
    cases hop
    exact hok.2
  | awaitFlags init =>
    rw [he] at hop
    cases hop
    trivial
  | awaitRecv m t k =>
    rw [he] at hok hop
    cases hop
    obtain ⟨hk, rfl⟩ := hok
    exact hk.recvRoom_pos
  | idle | decode | answeredAck | answeredFlags | answeredRecv | sleeping =>
    rw [he] at hop
    cases hop

/-- Ok is admitted by every operation but a read and `L0.get_flags` (R57). -/
theorem answerOk_ok (op : AckOp) : Claims.AnswerOk (.ack op) .ok := by
  cases op with
  | setSpeed | flush | initBus | send => trivial

/-- An error that an operation may answer is one that its contract admits (R57, R59). -/
theorem answerOk_of_mayFail {op : AckOp} {e : L0Err} (h : op.mayFail e = true) :
    Claims.AnswerOk (.ack op) (.err e) := by
  cases op with
  | send bytes =>
    rintro rfl
    cases h
  | setSpeed | flush | initBus => trivial

/-- The answer to the operation in flight leaves its sub-state with what it waited for (R62). -/
theorem BlockInv.settle {s : State} (h : BlockInv s) (op : L0Op) (a : L0Answer) {e : EState}
    (hs : s.estate ≠ .idle) (he : e ≠ .idle) (ha : e.arb = .idle) (hok : EStateOk s e) :
    BlockInv (s.settle op a e) :=
  { h.regs with
    busy_iff := by simp [h.busy_iff, hs, he]
    arb_eq := ha.symm
    estate_ok := hok }

/-- An answer of the L0 port keeps the invariant, and what it adds to the record met its contract. -/
theorem answer_inv {s : State} (h : BlockInv s) (a : L0Answer) :
    BlockInv (s.answer a) ∧ Extends s.history (s.answer a).history := by
  have admitted {op : L0Op} (hop : s.estate.inFlight = some op) {b : L0Answer}
      (hb : Claims.AnswerOk op b) : Extends s.history (s.history ++ [⟨op, some b⟩]) :=
    (Extends.refl _).snoc ⟨h.inFlight_ok hop, fun _ hc => Option.some.inj hc ▸ hb⟩
  have hok := h.estate_ok
  obtain heq | ⟨op, k, he, ⟨-, heq⟩ | ⟨e, -, hfail, heq⟩⟩ | ⟨init, f, he, -, heq⟩ |
    ⟨m, t, k, he, ⟨d, -, hpos, hlen, heq⟩ | ⟨e, -, heq⟩⟩ := answer_cases s a
  · rw [heq]
    exact ⟨h, Extends.refl _⟩
  all_goals
    rw [heq]
    rw [he] at hok
    have hne : s.estate ≠ .idle := by rw [he]; nofun
    have hop := congrArg EState.inFlight he
  · exact ⟨h.settle _ _ hne nofun rfl hok.1, admitted hop (answerOk_ok op)⟩
  · exact ⟨h.settle _ _ hne nofun rfl hok.1, admitted hop (answerOk_of_mayFail hfail)⟩
  · exact ⟨h.settle _ _ hne nofun rfl hok, admitted hop trivial⟩
  · obtain ⟨hk, rfl⟩ := hok
    exact ⟨h.settle _ _ hne nofun rfl ⟨hk, hpos, hlen⟩, admitted hop ⟨hpos, hlen⟩⟩
  · exact ⟨h.settle _ _ hne nofun rfl hok.1, admitted hop trivial⟩

/-! ### A command -/

/-- The run of a command keeps the invariant and puts on the record what met its contract. -/
theorem runOver_inv {old : List L0Event} {u : State} (h : BlockInv u) (hw : Extends old u.history)
    (evs : List Input) : BlockInv (runOver evs u) ∧ Extends old (runOver evs u).history := by
  refine runOver_induct (fun t => BlockInv t ∧ Extends old t.history) ?_ ?_ ?_ ?_ evs u ⟨h, hw⟩
  · exact fun t evs ⟨ht, hh⟩ => ⟨ht.withInputs evs, hh⟩
  · exact fun t ⟨ht, hh⟩ => ⟨{ ht with }, hh⟩
  · intro t a ⟨ht, es, hes, hok⟩
    obtain ⟨hinv, fs, hfs, hok'⟩ := answer_inv ht a
    exact ⟨hinv, es ++ fs, by rw [hfs, hes, List.append_assoc],
      List.forall_mem_append.mpr ⟨hok, hok'⟩⟩
  · exact fun t ⟨ht, hh⟩ => ⟨act_inv ht, act_history t ▸ hh⟩

theorem exec_inv {i : Instr} {s t : State} (h : Acting s) (ht : exec i s = .next t) :
    BlockInv t ∧ Extends s.history t.history := by
  obtain ⟨u, hu, rfl⟩ := exec_next ht
  exact runOver_inv (beginCommand_inv h hu)
    ((beginCommand_stretch hu).history ▸ Extends.refl s.history) _

theorem runWord_inv {w : Word} {s t : State} (h : Acting s) (ht : runWord w s = .next t) :
    BlockInv t ∧ Extends s.history t.history := by
  unfold runWord at ht
  split at ht
  · exact exec_inv h ht
  · cases ht
    exact ⟨h.complete (by decide), Extends.refl _⟩

/-! ### The reset input -/

/-- Settles O56: every clause at the values of R65. -/
theorem invariantAtReset : Obligations.InvariantAtReset where
  busy_iff := by decide
  arb_eq := rfl
  l3_up := nofun
  l3_empty := fun _ => rfl
  l3_len := Nat.zero_le _
  msgq_len := Nat.zero_le _
  msgq_ok := List.forall_mem_nil _
  fastbuf_len := empty_fastbuf_len
  fastbuf_pending := fun _ => rfl
  lasttx_ne := nofun
  txbuf_wf := reset_txbuf_wf
  err_ne := nofun
  retries_le := Nat.zero_le _
  config_legal := fun hn => absurd rfl hn
  config_fast := nofun
  flags_merged := fun hn => absurd rfl hn
  estate_ok := trivial

/-- The record after a reset: what it was, and the operation in flight without an answer (R64). -/
theorem resetBlock_history (s : State) :
    s.resetBlock.history = s.history ++ (match s.estate.inFlight with
      | some op => [⟨op, none⟩]
      | none => []) := by
  simp only [State.resetBlock]
  cases s.estate.inFlight with
  | some op => rfl
  | none => exact (List.append_nil _).symm

theorem resetBlock_inv {s : State} (h : BlockInv s) :
    BlockInv s.resetBlock ∧ Extends s.history s.resetBlock.history := by
  refine ⟨BlockInv.withRecord invariantAtReset 0 none _ s.readData s.inputs s.freeReads
    (s.resets + 1) s.params, ?_⟩
  cases hop : s.estate.inFlight with
  | none => simpa [resetBlock_history, hop] using Extends.refl s.history
  | some op =>
    simpa [resetBlock_history, hop] using
      (Extends.refl s.history).snoc (e := ⟨op, none⟩) ⟨h.inFlight_ok hop, nofun⟩

/-! ### The host port -/

/-- What a host write does: start a command, store into one of the RW registers, or nothing (R22, R54,
R55). -/
theorem store_cases (s : State) (v : Word) (r : Reg) :
    (r = .cmd ∧ s.store v r = { s with busy := true, estate := .decode v }) ∨
    (s.link = .down ∧ ∃ c a b, s.store v r = { s with config := c, addr := a, speed := b }) ∨
    (∃ t n, s.store v r = { s with timeout := t, txlen := n }) ∨
    (∃ i, r = .txbuf i ∧ s.store v r = { s with txbuf := s.txbuf.write i (v.truncate 8) }) := by
  have ignored (h : s.store v r = s) : ∃ t n, s.store v r = { s with timeout := t, txlen := n } :=
    ⟨s.timeout, s.txlen, h⟩
  have guarded (c : BitVec 6) (a : BitVec 16) (b : Word)
      (h : s.store v r = if s.linkDown then { s with config := c, addr := a, speed := b } else s) :
      (s.link = .down ∧ ∃ c a b, s.store v r = { s with config := c, addr := a, speed := b }) ∨
        ∃ t n, s.store v r = { s with timeout := t, txlen := n } := by
    cases hl : s.linkDown with
    | false => exact .inr (ignored (by rw [h, hl]; rfl))
    | true => exact .inl ⟨by simpa [State.linkDown] using hl, c, a, b, by rw [h, hl]; rfl⟩
  cases r with
  | cmd => exact .inl ⟨rfl, rfl⟩
  | config => exact .inr ((guarded (v.truncate 6) s.addr s.speed rfl).imp_right .inl)
  | addr => exact .inr ((guarded s.config (v.truncate 16) s.speed rfl).imp_right .inl)
  | speed => exact .inr ((guarded s.config s.addr v rfl).imp_right .inl)
  | timeout => exact .inr (.inr (.inl ⟨v.truncate 16, s.txlen, rfl⟩))
  | txlen => exact .inr (.inr (.inl ⟨s.timeout, v.truncate 8, rfl⟩))
  | txbuf i => exact .inr (.inr (.inr ⟨i, rfl, rfl⟩))
  | _ => exact .inr (.inr (.inl (ignored rfl)))

/-- A host write while no command runs keeps the invariant. -/
theorem store_inv {s : State} (h : BlockInv s) (hb : s.busy = false) (v : Word) {off : Nat} :
    BlockInv (s.store v (regAt off)) := by
  have hidle : s.estate = .idle := by
    by_contra hne
    exact absurd (h.busy_iff.mpr hne) (by simp [hb])
  have harb : s.arb = .idle := by rw [h.arb_eq, hidle]; rfl
  obtain ⟨-, heq⟩ | ⟨hlink, c, a, b, heq⟩ | ⟨t, n, heq⟩ | ⟨i, hi, heq⟩ :=
    store_cases s v (regAt off)
  · rw [heq]
    exact { h.regs with busy_iff := by simp, arb_eq := harb, estate_ok := trivial }
  · rw [heq]
    exact { h with
      config_legal := fun hn => absurd hlink hn
      config_fast := fun hp => absurd (hlink.symm.trans hp) (by decide)
      flags_merged := fun hn => absurd hlink hn
      estate_ok := by simp [hidle, EStateOk] }
  · rw [heq]
    exact { h with }
  · rw [heq]
    exact { h with txbuf_wf := write_wf h.txbuf_wf (regAt_txbuf_lt hi) _ }

/-- A host access keeps the invariant and the record. -/
theorem hostRead_inv {s t : State} (h : BlockInv s) {address bytes : Nat}
    (ht : hostRead address bytes s = .next t) : BlockInv t ∧ t.history = s.history := by
  unfold hostRead at ht
  split at ht
  · cases ht
  · split at ht <;> cases ht <;> exact ⟨{ h with }, rfl⟩

theorem store_history (s : State) (v : Word) (r : Reg) : (s.store v r).history = s.history := by
  obtain ⟨-, heq⟩ | ⟨-, c, a, b, heq⟩ | ⟨t, n, heq⟩ | ⟨i, -, heq⟩ := store_cases s v r
  all_goals rw [heq]

theorem hostWrite_inv {s t : State} (h : BlockInv s) {address bytes : Nat} {v : Word}
    (ht : hostWrite address bytes v s = .next t) : BlockInv t ∧ t.history = s.history := by
  unfold hostWrite at ht
  split at ht
  · cases ht
  · split at ht <;> cases ht
    rename_i hb
    exact ⟨store_inv h (by simpa using hb) v, store_history _ _ _⟩

/-! ### A step -/

theorem onEvent_inv {s t : State} {ev : Input} (h : BlockInv s) (ht : onEvent s ev = .next t) :
    BlockInv t ∧ Extends s.history t.history := by
  cases ev with
  | tick => cases ht; exact ⟨{ h with }, Extends.refl _⟩
  | reset => cases ht; exact resetBlock_inv h
  | answer a => cases ht; exact answer_inv h a
  | hostRead address bytes =>
    obtain ⟨hinv, hhist⟩ := hostRead_inv h ht
    exact ⟨hinv, hhist ▸ Extends.refl _⟩
  | hostWrite address bytes v =>
    obtain ⟨hinv, hhist⟩ := hostWrite_inv h ht
    exact ⟨hinv, hhist ▸ Extends.refl _⟩
  | engine =>
    simp only [onEvent, State.fetch] at ht
    cases he : s.estate with
    | decode w =>
      rw [he] at ht
      exact runWord_inv (h.acting (by rw [he]; nofun) (by rw [he]; rfl)) ht
    | _ =>
      rw [he] at ht
      cases ht
      exact ⟨act_inv h, act_history s ▸ Extends.refl _⟩

/-- Every step keeps the invariant, and the record goes on by operations that met their contracts. -/
theorem step_inv {s t : State} (h : BlockInv s) (ht : step s = .next t) :
    BlockInv t ∧ Extends s.history t.history := by
  obtain ⟨-, -, rfl⟩ | ⟨ev, rest, -, -, hnext | ⟨f, -, rfl⟩⟩ | ⟨f, ev, rest, -, -, rfl⟩ := step_cases ht
  · exact ⟨h, Extends.refl _⟩
  · exact (onEvent_inv (h.withInputs rest) hnext :)
  · exact ⟨{ h with }, Extends.refl _⟩
  · by_cases hev : ev = .reset
    · subst hev
      exact resetBlock_inv (h.withInputs rest)
    · rw [whileStopped_eq hev]
      exact ⟨h.withInputs rest, Extends.refl _⟩

/-- Settles O57: a step is one event, and each keeps the invariant, a whole command by the induction over
its run. -/
theorem stepKeepsInvariant : Obligations.StepKeepsInvariant := fun _ _ h ht => (step_inv h ht).1

/-- Settles O58: only an answer and the reset input write the record, and under the invariant the
operation in flight meets its contract. -/
theorem wireTrafficMeetsContracts : Obligations.WireTrafficMeetsContracts := fun _ _ h ht =>
  (step_inv h ht).2

end Sys2Proof.Machine
end

section

/-! ## The host port while no command runs -/

namespace Sys2Proof.Machine

open Claims

/-! ### Legal accesses -/

theorem offset_legal (s : State) {off : Nat} (h : Legal off) :
    s.offset (s.params.blockBase + off) 4 = some off := by
  have hsub : s.params.blockBase + off - s.params.blockBase = off := Nat.add_sub_cancel_left _ _
  simp [State.offset, hsub, h.1, h.2, Config.windowBytes]

theorem view_withInputs (s : State) (evs : List Input) (r : Reg) :
    ({ s with inputs := evs } : State).view r = s.view r := by
  cases r <;> rfl

theorem store_withInputs (s : State) (evs : List Input) (v : Word) (r : Reg) :
    ({ s with inputs := evs } : State).store v r = { s.store v r with inputs := evs } := by
  have guarded (t : State) :
      (if s.linkDown then { t with inputs := evs } else { s with inputs := evs } : State) =
        { (if s.linkDown then t else s) with inputs := evs } := by
    split <;> rfl
  cases r with
  | config => exact guarded { s with config := v.truncate 6 }
  | addr => exact guarded { s with addr := v.truncate 16 }
  | speed => exact guarded { s with speed := v }
  | _ => rfl

theorem hostRead_idle {s : State} {address bytes off : Nat}
    (ho : s.offset address bytes = some off) (hb : s.busy = false) :
    hostRead address bytes s = .next { s with readData := s.view (regAt off) } := by
  simp [hostRead, ho, hb]

theorem hostWrite_idle {s : State} {address bytes off : Nat}
    (ho : s.offset address bytes = some off) (hb : s.busy = false) (v : Word) :
    hostWrite address bytes v s = .next (s.store v (regAt off)) := by
  simp [hostWrite, ho, hb]

theorem hostWrite_busy {s : State} {address bytes off : Nat}
    (ho : s.offset address bytes = some off) (hb : s.busy = true) (v : Word) :
    hostWrite address bytes v s = .fault .writeWhileBusy := by
  simp [hostWrite, ho, hb]

/-- A legal read goes through and gives the register's view (R72, R75). -/
theorem reads_view {s : State} (h : Ready s) {off : Nat} (hoff : Legal off) {v : Word}
    (hv : s.view (regAt off) = v) : Reads s off v := by
  obtain ⟨hf, hb⟩ := h
  intro rest
  have hread := hostRead_idle (s := { s with inputs := rest }) (offset_legal _ hoff) hb
  rw [view_withInputs, hv] at hread
  exact (step_event (s := reading s off rest) hf rfl).trans (congrArg _ hread)

/-- A legal write goes through and stores into the register (R72). -/
theorem writesTo_store {s : State} (h : Ready s) {off : Nat} (hoff : Legal off) {v : Word} {t : State}
    (ht : s.store v (regAt off) = t) : WritesTo s off v t := by
  obtain ⟨hf, hb⟩ := h
  intro rest
  have hwrite := hostWrite_idle (s := { s with inputs := rest }) (offset_legal _ hoff) hb v
  rw [store_withInputs, ht] at hwrite
  exact (step_event (s := writing s off v rest) hf rfl).trans (congrArg _ hwrite)

/-! ### The register map -/

/-- From 0x100 on the window holds the three buffers (R21). -/
theorem regAt_buffers {off : Nat} (h : 0x100 ≤ off) :
    regAt off =
      if 0x100 ≤ off ∧ off < 0x200 then .txbuf ((off - 0x100) / 4)
      else if 0x200 ≤ off ∧ off < 0x300 then .msgdata ((off - 0x200) / 4)
      else if 0x300 ≤ off ∧ off < 0x400 then .l3buf ((off - 0x300) / 4)
      else .unmapped := by
  unfold regAt
  split
  case h_27 => rfl
  all_goals exact absurd h (by decide)

theorem regAt_txbuf {i : Nat} (h : i < 64) : regAt (0x100 + 4 * i) = .txbuf i := by
  rw [regAt_buffers (by omega), if_pos (by omega)]
  congr
  omega

theorem regAt_msgdata {i : Nat} (h : i < 64) : regAt (0x200 + 4 * i) = .msgdata i := by
  rw [regAt_buffers (by omega), if_neg (by omega), if_pos (by omega)]
  congr
  omega

theorem regAt_l3buf {i : Nat} (h : i < 64) : regAt (0x300 + 4 * i) = .l3buf i := by
  rw [regAt_buffers (by omega), if_neg (by omega), if_neg (by omega), if_pos (by omega)]
  congr
  omega

/-- The registers whose writes are ignored (R54). -/
def Reg.ignoresWrites : Reg → Bool
  | .cmd | .config | .addr | .speed | .timeout | .txlen | .txbuf _ => false
  | _ => true

theorem store_ignored {r : Reg} (h : r.ignoresWrites = true) (s : State) (v : Word) :
    s.store v r = s := by
  cases r with
  | cmd | config | addr | speed | timeout | txlen | txbuf => cases h
  | _ => rfl

/-- Every offset below the buffers that rule R21 lists is that of an RO or of an RW register. -/
theorem regAt_unmapped {off : Nat} (hlt : off < 0x100) (hro : off ∉ roOffsets)
    (hrw : off ∉ writableOffsets) : regAt off = .unmapped := by
  unfold regAt
  split
  case h_27 => rw [if_neg (by omega), if_neg (by omega), if_neg (by omega)]
  all_goals simp [roOffsets, writableOffsets] at hro hrw

theorem roOffsets_legal : ∀ off ∈ roOffsets, Legal off ∧ (regAt off).ignoresWrites = true := by
  decide

/-- MSGDATA, L3BUF and what lies beyond ignore writes (R54). -/
theorem regAt_ignoresWrites_of_ge {off : Nat} (h : 0x200 ≤ off) :
    (regAt off).ignoresWrites = true := by
  rw [regAt_buffers (by omega), if_neg (by omega)]
  split
  · rfl
  · split <;> rfl

/-! ### Words and their fields -/

/-- A write takes the low bits of its word. -/
theorem truncate_eq_extractLsb' (v : Word) (n : Nat) : v.truncate n = v.extractLsb' 0 n := by
  ext i hi
  simp

theorem zeroExtend_eq_ofNat {n : Nat} (x : BitVec n) : x.zeroExtend 32 = BitVec.ofNat 32 x.toNat :=
  (BitVec.ofNat_toNat 32 x).symm

/-- A count below 256 fits a byte register. -/
theorem byteWord_ofNat {n : Nat} (h : n < 256) :
    byteWord (BitVec.ofNat 8 n) = BitVec.ofNat 32 n := by
  rw [byteWord, zeroExtend_eq_ofNat, BitVec.toNat_ofNat, Nat.mod_eq_of_lt h]

section WordFields

variable (d c : Byte)

theorem pair_low : ((d.zeroExtend 32 <<< 8) ||| c.zeroExtend 32 : Word).extractLsb' 0 8 = c := by
  ext i hi
  grind

theorem pair_high : ((d.zeroExtend 32 <<< 8) ||| c.zeroExtend 32 : Word).extractLsb' 8 8 = d := by
  ext i hi
  grind

theorem pair_above : ((d.zeroExtend 32 <<< 8) ||| c.zeroExtend 32 : Word).extractLsb' 16 16 = 0 := by
  ext i hi
  have := BitVec.getLsbD_of_ge d (i + 8) (by omega)
  grind

end WordFields

section StatusFields

variable (b v : Bool) (l : BitVec 2) (e : Byte)

theorem statusOf_busy : (statusOf b v l e).getLsbD 0 = b := by simp [statusOf]

theorem statusOf_verify : (statusOf b v l e).getLsbD 1 = v := by simp [statusOf]

theorem statusOf_link : (statusOf b v l e).extractLsb' 2 2 = l := by
  ext i hi
  grind [statusOf]

theorem statusOf_low_reserved : (statusOf b v l e).extractLsb' 4 4 = 0 := by
  ext i hi
  grind [statusOf]

theorem statusOf_err : (statusOf b v l e).extractLsb' 8 8 = e := by
  ext i hi
  grind [statusOf]

theorem statusOf_high_reserved : (statusOf b v l e).extractLsb' 16 16 = 0 := by
  ext i hi
  grind [statusOf]

end StatusFields

/-- L3STAT as a number, within the bound of L3LEN (R43). -/
theorem l3stat_eq (s : State) (h : s.l3buf.length ≤ 64) :
    s.l3stat = BitVec.ofNat 32 (256 * s.l3buf.length + if s.l3active then 1 else 0) := by
  have hbit : s.l3active.toNat < 2 ^ 8 := s.l3active.toNat_lt.trans (by decide)
  have hif : (if s.l3active then 1 else 0) = s.l3active.toNat := by cases s.l3active <;> rfl
  have hor := Nat.shiftLeft_add_eq_or_of_lt hbit s.l3buf.length
  have hshift : s.l3buf.length <<< 8 = 256 * s.l3buf.length := by
    rw [Nat.shiftLeft_eq, Nat.mul_comm]
  apply BitVec.eq_of_toNat_eq
  rw [hif, ← hshift, hor]
  simp only [State.l3stat, BitVec.truncate_eq_setWidth, BitVec.toNat_or, BitVec.toNat_shiftLeft,
    BitVec.toNat_setWidth, BitVec.toNat_ofNat, BitVec.toNat_ofBool, Nat.or_mod_two_pow]
  rw [Nat.mod_eq_of_lt (show s.l3buf.length < 2 ^ 8 by omega),
    Nat.mod_eq_of_lt (show s.l3buf.length < 2 ^ 32 by omega)]

/-! ## What the host reads and writes -/

/-- Settles O6: CMD at offset 0, by the rules of a legal access. -/
theorem cmdWriteStartsCommand : Obligations.CmdWriteStartsCommand := by
  intro s hf
  have hoff : Legal 0x000 := by decide
  refine ⟨fun hb w => writesTo_store ⟨hf, hb⟩ hoff rfl, fun hb => reads_view ⟨hf, hb⟩ hoff rfl,
    fun hb w rest => ?_⟩
  have hwrite := hostWrite_busy (s := { s with inputs := rest }) (offset_legal _ hoff) hb w
  exact (step_event (s := writing s 0x000 w rest) hf rfl).trans (congrArg _ hwrite)

/-- Settles O9: the offsets below the buffers by the register map, the rest by its intervals. -/
theorem readOnlyAndUnmapped : Obligations.ReadOnlyAndUnmapped := by
  intro s hr
  refine ⟨fun off hoff hlt hro hrw => ?_, fun off hoff hor v => ?_, reads_view hr (by decide) rfl⟩
  · have hreg := regAt_unmapped hlt hro hrw
    exact ⟨reads_view hr hoff (by rw [hreg]; rfl), fun v => writesTo_store hr hoff (by rw [hreg]; rfl)⟩
  · refine writesTo_store hr hoff (store_ignored ?_ s v)
    obtain hro | hge := hor
    · exact (roOffsets_legal off hro).2
    · exact regAt_ignoresWrites_of_ge hge

theorem txbuf_legal {i : Nat} (h : i < 64) : Legal (0x100 + 4 * i) := by
  constructor <;> omega

theorem msgdata_legal {i : Nat} (h : i < 64) : Legal (0x200 + 4 * i) := by
  constructor <;> omega

theorem l3buf_legal {i : Nat} (h : i < 64) : Legal (0x300 + 4 * i) := by
  constructor <;> omega

/-- A write to TXBUF[i] writes the entry (R38, R55). -/
theorem writesTo_txbuf {s : State} (h : Ready s) {i : Nat} (hi : i < 64) (v : Word) :
    WritesTo s (0x100 + 4 * i) v { s with txbuf := s.txbuf.write i (v.extractLsb' 0 8) } :=
  writesTo_store h (txbuf_legal hi) (by rw [regAt_txbuf hi, ← truncate_eq_extractLsb']; rfl)

/-- Settles O10: each RW register by its arm of the store, under the guard of R55. -/
theorem configurationWrites : Obligations.ConfigurationWrites := by
  intro s v hr
  refine ⟨fun hl => ?_, fun hl => ?_, ?_, ?_, fun i hi => writesTo_txbuf hr hi v⟩
  · have hdown : s.linkDown = true := by simp [State.linkDown, hl]
    simp only [← truncate_eq_extractLsb']
    exact ⟨writesTo_store hr (by decide) (if_pos hdown), writesTo_store hr (by decide) (if_pos hdown),
      writesTo_store hr (by decide) (if_pos hdown)⟩
  · have hup : ¬s.linkDown = true := by simpa [State.linkDown] using hl
    exact ⟨writesTo_store hr (by decide) (if_neg hup), writesTo_store hr (by decide) (if_neg hup),
      writesTo_store hr (by decide) (if_neg hup)⟩
  · rw [← truncate_eq_extractLsb']
    exact writesTo_store hr (by decide) rfl
  · rw [← truncate_eq_extractLsb']
    exact writesTo_store hr (by decide) rfl

/-- Settles O11: the laws of byte storage at the entry that the write names. -/
theorem txbufReadAfterWrite : Obligations.TxbufReadAfterWrite := by
  intro s t i v rest hr hi h
  rw [writesTo_txbuf hr hi v rest] at h
  obtain ⟨hready, htx⟩ : Ready t ∧ t.txbuf = s.txbuf.write i (v.extractLsb' 0 8) := by
    cases h
    exact ⟨hr, rfl⟩
  rw [htx]
  refine ⟨read_write_same _ _ _, fun j hj => read_write_other _ _ _ _ hj, fun j b hj hb => ?_⟩
  refine reads_view hready (txbuf_legal hj) ?_
  rw [← htx] at hb
  rw [regAt_txbuf hj]
  simp only [State.view, State.txView, hb, byteWord]

theorem headView_nil {s : State} (h : s.msgq = []) (f : Message → Word) : s.headView f = 0 := by
  simp only [State.headView, h]

theorem headView_cons {s : State} {m : Message} {q : List Message} (h : s.msgq = m :: q)
    (f : Message → Word) : s.headView f = f m := by
  simp only [State.headView, h]

/-- A byte of a buffer as the host reads it: the byte, or 0 from the end on (R42, R43). -/
theorem byteWord_getD (bs : List Byte) (i : Nat) :
    byteWord (bs.getD i 0) = if h : i < bs.length then bs[i].zeroExtend 32 else 0 := by
  split
  · rename_i h
    rw [List.getD_eq_getElem _ _ h, byteWord]
  · rename_i h
    rw [List.getD_eq_default _ _ (by omega)]
    rfl

/-- Settles O12: every register of the head view is a function of the head message. -/
theorem headMessageView : Obligations.HeadMessageView := by
  intro s hr
  refine ⟨fun hq => ?_, fun m q hq hlen => ?_⟩
  · have empty := headView_nil hq
    refine ⟨reads_view hr (by decide) (empty _), reads_view hr (by decide) (empty _),
      reads_view hr (by decide) (empty _), reads_view hr (by decide) (empty _), fun i hi => ?_⟩
    exact reads_view hr (msgdata_legal hi) (by rw [regAt_msgdata hi]; exact empty _)
  · have head := headView_cons hq
    refine ⟨reads_view hr (by decide) ((head _).trans (byteWord_ofNat (by omega))),
      ⟨addrWord m, reads_view hr (by decide) (head _), pair_low _ _, pair_high _ _,
        pair_above _ _⟩,
      reads_view hr (by decide) (head _), reads_view hr (by decide) (head _), fun i hi => ?_⟩
    refine reads_view hr (msgdata_legal hi) ?_
    rw [regAt_msgdata hi]
    exact (head _).trans (byteWord_getD _ _)

/-- CRCOUT is the complement of CRCREG as a number (R36). -/
theorem byteWord_not (c : Byte) : byteWord (~~~c) = BitVec.ofNat 32 (255 - c.toNat) := by
  rw [byteWord, zeroExtend_eq_ofNat, BitVec.toNat_not]

/-- Settles O13: the view of each register, and the fields of STATUS by their bits. -/
theorem statusWordFields : Obligations.StatusWordFields := by
  intro s hr
  have word {n : Nat} {off : Nat} (hoff : Legal off) {x : BitVec n}
      (hv : s.view (regAt off) = x.zeroExtend 32) : Reads s off (BitVec.ofNat 32 x.toNat) :=
    reads_view hr hoff (hv.trans (zeroExtend_eq_ofNat x))
  refine ⟨⟨s.status, reads_view hr (by decide) rfl, ?_, statusOf_verify _ _ _ _, ?_,
      statusOf_low_reserved _ _ _ _, statusOf_high_reserved _ _ _ _, ?_⟩,
    word (by decide) rfl, word (by decide) rfl, reads_view hr (by decide) rfl,
    word (by decide) rfl, word (by decide) rfl, word (by decide) rfl, word (by decide) rfl,
    word (by decide) rfl, word (by decide) rfl, word (by decide) rfl, word (by decide) rfl,
    word (by decide) rfl, word (by decide) rfl, reads_view hr (by decide) (byteWord_not _),
    word (by decide) rfl, fun hq => reads_view hr (by decide) (byteWord_ofNat (by omega)),
    reads_view hr (by decide) rfl, fun hl => reads_view hr (by decide) (l3stat_eq s hl),
    reads_view hr (by decide) rfl, word (by decide) rfl, fun i hi => ?_⟩
  · exact (statusOf_busy _ _ _ _).trans hr.2
  · refine (statusOf_link _ _ _ _).trans ?_
    cases s.link <;> rfl
  · refine (statusOf_err _ _ _ _).trans ?_
    cases s.err <;> rfl
  · refine reads_view hr (l3buf_legal hi) ?_
    rw [regAt_l3buf hi]
    refine (byteWord_getD _ _).trans ?_
    simp only [zeroExtend_eq_ofNat]

/-! ## Sleep and reset -/

/-- Settles O15: the two equations of a sleep's start, and the engine's turn at its wait. -/
theorem sleepHoldsTheEngine : Obligations.SleepHoldsTheEngine := by
  refine ⟨fun s k => if_pos rfl, fun s d k hd => if_neg hd, fun s t0 d k rest hf he hi => ?_⟩
  have hstep : step s = .next (act { s with inputs := rest }) := by
    rw [step_event hf hi]
    simp only [onEvent, State.fetch, he, stopAt_next]
  have hact : act { s with inputs := rest } =
      if slept s.now t0 d then wake { s with inputs := rest } k else { s with inputs := rest } := by
    simp only [act, he]
  rw [hstep, hact]
  constructor
  · intro hlt
    rw [if_neg (by simpa [slept] using hlt)]
  · intro hle
    rw [if_pos (by simpa [slept] using hle)]

/-- An answer that comes when no operation is in flight is discarded (R64). -/
theorem answer_of_idle {s : State} (h : s.estate = .idle) (a : L0Answer) : s.answer a = s := by
  simp only [State.answer, h]

/-- Settles O16: the step rule of the reset input, and the record it leaves. -/
theorem resetSequence : Obligations.ResetSequence := by
  intro s rest hi
  refine ⟨_, step_reset hi, rfl, rfl, rfl, rfl, rfl, rfl, rfl, rfl, rfl, rfl, rfl, rfl, rfl, rfl, rfl,
    rfl, rfl, rfl, fun _ => rfl, rfl, rfl, rfl, rfl, rfl, rfl, rfl, rfl, rfl, rfl, rfl, rfl, rfl, ?_,
    answer_of_idle rfl⟩
  exact resetBlock_history { s with inputs := rest }

/-- Settles O17: the views of the reset state. -/
theorem resetValues : Obligations.ResetValues := by
  have hr : Ready State.reset := ⟨rfl, rfl⟩
  have zero : ∀ off ∈ [0x004, 0x008, 0x00C, 0x010, 0x014, 0x018, 0x01C, 0x020, 0x024, 0x028, 0x02C,
      0x030, 0x034, 0x03C, 0x040, 0x044, 0x048, 0x04C, 0x050, 0x054, 0x058, 0x05C, 0x060, 0x064],
      Legal off ∧ State.reset.view (regAt off) = 0 := by decide
  refine ⟨fun off hoff => reads_view hr (zero off hoff).1 (zero off hoff).2,
    reads_view hr (by decide) rfl, fun i hi => ⟨rfl, ?_, ?_⟩, rfl, rfl, rfl, rfl⟩
  · exact reads_view hr (msgdata_legal hi) (by rw [regAt_msgdata hi]; rfl)
  · exact reads_view hr (l3buf_legal hi) (by rw [regAt_l3buf hi]; rfl)

end Sys2Proof.Machine
end

section

/-! ## RECV and REQUEST append all or nothing -/

namespace Sys2Proof.Machine

/-- Where a receive that found the queue `q` may stand: it has written to MSGQ only if it has ended with
OK, and then it has appended no more than fits (R190, R217). -/
structure AllOrNothing (q : List Message) (t : State) : Prop where
  kept : t.estate ≠ .idle ∨ t.err ≠ .ok → t.msgq = q
  appended : t.estate = .idle → t.err = .ok →
    ∃ ms, t.msgq = q ++ ms ∧ t.msgq.length ≤ Config.msgqCap

/-! ### Where a stretch of a receive ends -/

section Ends

variable {q : List Message} {t : State}

theorem AllOrNothing.fail (hq : t.msgq = q) {e : ErrCode} (he : e ≠ .ok) :
    AllOrNothing q (t.complete e) :=
  ⟨fun _ => hq, fun _ hok => absurd hok he⟩

theorem AllOrNothing.running (hq : t.msgq = q) (he : t.estate ≠ .idle) : AllOrNothing q t :=
  ⟨fun _ => hq, fun hidle => absurd hidle he⟩

theorem AllOrNothing.issueAck (hq : t.msgq = q) (op : AckOp) (k : AckKont) :
    AllOrNothing q (t.issueAck op k) :=
  .running hq nofun

theorem AllOrNothing.issueRecv (hq : t.msgq = q) (m n : Nat) (k : RecvKont) :
    AllOrNothing q (t.issueRecv m n k) :=
  .running hq nofun

end Ends

/-- An L0 error is never reported as OK (R61). -/
theorem toCode_ne_ok (e : L0Err) : e.toCode ≠ .ok := by
  cases e <;> decide

/-- A framer never refuses with OK (R185 to R188). -/
theorem frameFor_ne_error_ok (s : State) (bs : List Byte) : frameFor s bs ≠ .error .ok := by
  unfold frameFor
  split
  · unfold frame9141
    split <;> nofun
  · unfold frame1850
    split <;> nofun
  · unfold frameRaw
    split <;> nofun
  · unfold frameRaw
    split <;> nofun
  · nofun
  · nofun

/-! ### The receivers -/

section Receivers

variable {q : List Message} {t : State} (hq : t.msgq = q) {c : Receiver}
include hq

/-- The one place where MSGQ is written: `append_msgs`, all or NoMemory (R217). -/
theorem deliver_allOrNothing (hc : c ≠ .keepalive) (msgs : List Message) :
    AllOrNothing q (deliver t c msgs) := by
  have full : AllOrNothing q (t.complete .noMemory) := .fail hq (by decide)
  have fits {u : State} (hu : t.appendMsgs msgs = some u) (idle : Word) :
      AllOrNothing q ({ u with l3idle := idle }.complete .ok) := by
    obtain ⟨hlen, rfl⟩ := appendMsgs_eq_some.mp hu
    refine ⟨fun h => absurd h (by simp), fun _ _ => ⟨msgs, by simp [hq], ?_⟩⟩
    simpa using hlen
  cases c with
  | recv | request | l3Framed =>
    simp only [deliver]
    split
    · exact fits ‹_› _
    · exact full
  | keepalive => exact absurd rfl hc

theorem deliverDecoded_allOrNothing (hc : c ≠ .keepalive) (o : Option (List Message)) :
    AllOrNothing q (deliverDecoded t c o) := by
  cases o with
  | some msgs => exact deliver_allOrNothing hq hc msgs
  | none => exact .fail hq (by decide)

theorem enterAccum_allOrNothing (frames : List RxFrame) (cur : List Byte) (ts : Word) :
    AllOrNothing q (enterAccum t c frames cur ts) := by
  unfold enterAccum
  split
  · exact .fail hq (by decide)
  · exact .issueRecv hq _ _ _

theorem onRxWaitFirst_allOrNothing (time : Word) (r : RecvResult) :
    AllOrNothing q (onRxWaitFirst t c time r) := by
  cases r with
  | data d => exact enterAccum_allOrNothing hq _ _ _
  | err e => exact .fail hq (toCode_ne_ok e)

theorem onRxAccum_allOrNothing (frames : List RxFrame) (cur : List Byte) (ts : Word)
    (r : RecvResult) : AllOrNothing q (onRxAccum t c frames cur ts r) := by
  rcases r with d | e
  · exact enterAccum_allOrNothing hq _ _ _
  · cases e with
    | timeout => exact .issueRecv hq _ _ _
    | busError | ioError => exact .fail hq (by decide)

theorem onRxWaitMore_allOrNothing (hc : c ≠ .keepalive) (frames : List RxFrame) (time : Word)
    (r : RecvResult) : AllOrNothing q (onRxWaitMore t c frames time r) := by
  rcases r with d | e
  · exact enterAccum_allOrNothing hq _ _ _
  · cases e with
    | timeout => exact deliverDecoded_allOrNothing hq hc _
    | busError | ioError => exact .fail hq (by decide)

theorem onRxRaw_allOrNothing (hc : c ≠ .keepalive) (time : Word) (r : RecvResult) :
    AllOrNothing q (onRxRaw t c time r) := by
  cases r with
  | data d => exact deliver_allOrNothing hq hc _
  | err e => exact .fail hq (toCode_ne_ok e)

theorem busRetry_allOrNothing (n : Nat) : AllOrNothing q (busRetry t c n) := by
  have failed : AllOrNothing q ((t.setRetries n).complete .busError) :=
    .fail (t := t.setRetries n) hq (by decide)
  unfold busRetry
  split
  · exact failed
  · split
    · exact failed
    · exact .issueAck hq _ _

theorem onRx1850_allOrNothing (hc : c ≠ .keepalive) (frames : List RxFrame) (n : Nat) (time : Word)
    (r : RecvResult) : AllOrNothing q (onRx1850 t c frames n time r) := by
  have hq' : (t.setRetries n).msgq = q := hq
  rcases r with d | e
  · exact .issueRecv hq _ _ _
  · cases e with
    | timeout =>
      simp only [onRx1850]
      split
      · exact .fail hq' (by decide)
      · exact deliverDecoded_allOrNothing hq' hc _
    | busError => exact busRetry_allOrNothing hq n
    | ioError => exact .fail hq' (by decide)

theorem onRx1850Resend_allOrNothing (n : Nat) (r : Option L0Err) :
    AllOrNothing q (onRx1850Resend t c n r) := by
  cases r with
  | none => exact .issueRecv hq _ _ _
  | some e => exact .fail (t := t.setRetries n) hq (toCode_ne_ok e)

theorem beginReceive_allOrNothing : AllOrNothing q (beginReceive t c) := by
  have unsupported : AllOrNothing q (t.complete .protocolNotSupported) := .fail hq (by decide)
  unfold beginReceive
  split
  · exact .issueRecv hq _ _ _
  · split
    · exact .issueRecv hq _ _ _
    · exact unsupported
  · exact .issueRecv hq _ _ _
  · exact .issueRecv hq _ _ _
  · exact unsupported
  · exact unsupported

/-! ### The send of REQUEST -/

theorem afterEmit_request_allOrNothing (frame : List Byte) :
    AllOrNothing q (afterEmit t .request frame) :=
  beginReceive_allOrNothing (t := { t with lasttx := some frame }) hq

theorem l2SendBytes_request_allOrNothing (bs : List Byte) :
    AllOrNothing q (l2SendBytes t .request bs) := by
  obtain ⟨e, he, heq⟩ | ⟨f, -, -, heq⟩ | ⟨f, -, -, heq⟩ := l2SendBytes_cases t .request bs
  · rw [heq]
    exact .fail hq fun hok => frameFor_ne_error_ok t bs (hok ▸ he)
  · rw [heq]
    exact .fail hq (by decide)
  · rw [heq, emit]
    split <;> exact .issueAck hq _ _

theorem onEmitFrame_request_allOrNothing (frame : List Byte) (r : Option L0Err) :
    AllOrNothing q (onEmitFrame t .request frame r) := by
  cases r with
  | none => exact afterEmit_request_allOrNothing hq frame
  | some e => exact .fail hq (toCode_ne_ok e)

theorem onEmitByte_request_allOrNothing (frame rest : List Byte) (r : Option L0Err) :
    AllOrNothing q (onEmitByte t .request frame rest r) := by
  cases r with
  | none =>
    simp only [onEmitByte]
    split
    · exact afterEmit_request_allOrNothing hq frame
    · unfold sleepThen
      split
      · exact .issueAck hq _ _
      · exact .running hq nofun
  | some e => exact .fail hq (toCode_ne_ok e)

end Receivers

/-! ### The engine acts -/

/-- A sender that runs for RECV or REQUEST runs for REQUEST. -/
theorem Sender.eq_request {c : Sender} (hc : c.command = .recv ∨ c.command = .request) :
    c = .request := by
  cases c <;> simp [Sender.command] at hc ⊢

/-- A receiver that runs for RECV or REQUEST keeps what it receives. -/
theorem Receiver.ne_keepalive {c : Receiver} (hc : c.command = .recv ∨ c.command = .request) :
    c ≠ .keepalive := by
  rintro rfl
  simp [Receiver.command] at hc

/-- The byte path never runs for RECV or REQUEST (R250, R260). -/
theorem ByteCaller.command_ne (c : ByteCaller) : ¬(c.command = .recv ∨ c.command = .request) := by
  cases c <;> decide

section Acts

variable {q : List Message} {t : State} (hq : t.msgq = q)
include hq

theorem onAck_allOrNothing {k : AckKont} (hk : k.command = .recv ∨ k.command = .request)
    (r : Option L0Err) : AllOrNothing q (onAck t r k) := by
  cases k with
  | startSetSpeed | s5Flush | s5Init | s5TxInv | fInit => simp [AckKont.command] at hk
  | emitFrame c frame =>
    obtain rfl := Sender.eq_request hk
    exact onEmitFrame_request_allOrNothing hq frame r
  | emitByte c frame rest =>
    obtain rfl := Sender.eq_request hk
    exact onEmitByte_request_allOrNothing hq frame rest r
  | rx1850Resend c n => exact onRx1850Resend_allOrNothing hq n r

theorem onRecv_allOrNothing {k : RecvKont} (hk : k.command = .recv ∨ k.command = .request)
    (r : RecvResult) (time : Word) : AllOrNothing q (onRecv t r time k) := by
  cases k with
  | s5Kb1 | s5Kb2 | s5RxInv => simp [RecvKont.command] at hk
  | rxWaitFirst c => exact onRxWaitFirst_allOrNothing hq time r
  | rxAccum c frames cur ts => exact onRxAccum_allOrNothing hq frames cur ts r
  | rxWaitMore c frames => exact onRxWaitMore_allOrNothing hq (Receiver.ne_keepalive hk) frames time r
  | rxRaw c => exact onRxRaw_allOrNothing hq (Receiver.ne_keepalive hk) time r
  | rx1850 c frames n => exact onRx1850_allOrNothing hq (Receiver.ne_keepalive hk) frames n time r
  | l3Probe p | l3Normal p | l3Drain p => exact absurd hk p.caller.command_ne

theorem wake_allOrNothing {k : SleepKont} (hk : k.command = .recv ∨ k.command = .request) :
    AllOrNothing q (wake t k) := by
  cases k with
  | s5Idle | s5W4 | fIdle => simp [SleepKont.command] at hk
  | emitGap c frame rest => exact .issueAck hq _ _

end Acts

/-- The engine acts on a RECV or a REQUEST, or on none: MSGQ is written at the end with OK alone. -/
theorem act_allOrNothing {i : Instr} (hi : i = .recv ∨ i = .request) {q : List Message} {t : State}
    (ho : t.estate.OwnedBy i) (h : AllOrNothing q t) : AllOrNothing q (act t) := by
  have own {j : Instr} (hj : t.estate.command = some j) : t.msgq = q ∧ (j = .recv ∨ j = .request) :=
    ⟨h.kept (.inl fun hidle => by simp [hidle, EState.command] at hj), ho j hj ▸ hi⟩
  unfold act
  split
  · exact h
  · exact h
  · exact h
  · exact h
  · exact h
  · rename_i r k he
    obtain ⟨hq, hk⟩ := own (congrArg EState.command he)
    exact onAck_allOrNothing hq hk r
  · rename_i f init he
    obtain ⟨-, hk⟩ := own (congrArg EState.command he)
    exact absurd hk (by decide)
  · rename_i r time k he
    obtain ⟨hq, hk⟩ := own (congrArg EState.command he)
    exact onRecv_allOrNothing hq hk r time
  · rename_i t0 d k he
    split
    · obtain ⟨hq, hk⟩ := own (congrArg EState.command he)
      exact wake_allOrNothing hq hk
    · exact h

/-! ### The run -/

/-- An answer writes no message: it settles an operation in flight (R62). -/
theorem answer_allOrNothing {q : List Message} {t : State} (h : AllOrNothing q t) (a : L0Answer) :
    AllOrNothing q (t.answer a) := by
  obtain heq | ⟨op, k, he, ⟨-, heq⟩ | ⟨e, -, -, heq⟩⟩ | ⟨init, f, he, -, heq⟩ |
    ⟨m, n, k, he, ⟨d, -, -, -, heq⟩ | ⟨e, -, heq⟩⟩ := answer_cases t a
  · rw [heq]; exact h
  all_goals
    have hq : t.msgq = q := h.kept (.inl (by rw [he]; nofun))
    rw [heq]
    exact .running hq nofun

/-- A begun RECV or REQUEST has not written MSGQ, or it has ended (R190, R215). -/
theorem beginCommand_allOrNothing {i : Instr} (hi : i = .recv ∨ i = .request) {s u : State}
    (hu : beginCommand s i = .next u) : AllOrNothing s.msgq u := by
  obtain rfl | rfl := hi
  · cases hu
    unfold beginRecv
    split
    · exact .fail rfl (by decide)
    · exact beginReceive_allOrNothing (t := s.setRetries 0) rfl
  · simp only [beginCommand, beginRequest, l2Send] at hu
    split at hu
    · cases hu
      exact .fail rfl (by decide)
    · split at hu
      · cases hu
        exact .fail (t := s.setRetries 0) rfl (by decide)
      · obtain rfl | ⟨bs, -, rfl⟩ := onTxBytes_next hu
        · exact .fail (t := s.setRetries 0) rfl (by decide)
        · exact l2SendBytes_request_allOrNothing (t := s.setRetries 0) rfl bs

theorem runOver_allOrNothing {i : Instr} (hi : i = .recv ∨ i = .request) {q : List Message}
    {u : State} (h : AllOrNothing q u) (ho : u.estate.OwnedBy i) (evs : List Input) :
    AllOrNothing q (runOver evs u) := by
  have hrun := runOver_induct (fun t => AllOrNothing q t ∧ t.estate.OwnedBy i)
    (fun t evs ⟨h, ho⟩ => ⟨{ h with }, ho⟩)
    (fun t ⟨h, ho⟩ => ⟨{ h with }, ho⟩)
    (fun t a ⟨h, ho⟩ => ⟨answer_allOrNothing h a, (answer_frame (Frame.refl i t) ho a).2⟩)
    (fun t ⟨h, ho⟩ => ⟨act_allOrNothing hi ho h, (act_stretch ho).owned⟩)
    evs u ⟨h, ho⟩
  exact hrun.1

/-- Settles O44: the begun command has written nothing, and its run keeps that until it ends with OK. -/
theorem receiveAppendsAllOrNothing : Obligations.ReceiveAppendsAllOrNothing := by
  intro i s t hi ht hidle
  obtain ⟨u, hu, rfl⟩ := exec_next ht
  have hrun := runOver_allOrNothing hi (beginCommand_allOrNothing hi hu)
    (beginCommand_stretch hu).owned u.inputs
  exact ⟨fun herr => hrun.kept (.inr herr), hrun.appended hidle⟩

end Sys2Proof.Machine
end

section

/-! ## Illegal host accesses, and accesses while BUSY = 1 -/

namespace Sys2Proof.Machine

open Claims

/-- An access has no offset in the window exactly when it is illegal (R74). -/
theorem offset_eq_none_iff (s : State) (address bytes : Nat) :
    s.offset address bytes = none ↔
      ∀ off, Legal off → address = s.params.blockBase + off → bytes ≠ 4 := by
  constructor
  · rintro ho off hoff rfl rfl
    rw [offset_legal s hoff] at ho
    cases ho
  · intro h
    refine if_neg fun ⟨hbase, hwindow, halign, hbytes⟩ => ?_
    exact h (address - s.params.blockBase) ⟨hwindow, halign⟩ (by omega) hbytes

/-- A host read is the fault BadHostAccess exactly where the access has no offset (R74, R79). -/
theorem hostRead_fault_iff (s : State) (address bytes : Nat) :
    hostRead address bytes s = .fault .badHostAccess ↔ s.offset address bytes = none := by
  unfold hostRead
  cases s.offset address bytes with
  | none => simp
  | some off => dsimp only; split <;> simp

/-- A host write is the fault BadHostAccess exactly where the access has no offset (R74, R79). -/
theorem hostWrite_fault_iff (s : State) (address bytes : Nat) (v : Word) :
    hostWrite address bytes v s = .fault .badHostAccess ↔ s.offset address bytes = none := by
  unfold hostWrite
  cases s.offset address bytes with
  | none => simp
  | some off => dsimp only; split <;> simp

theorem store_modelFault (s : State) (v : Word) (r : Reg) :
    (s.store v r).modelFault = s.modelFault := by
  obtain ⟨-, heq⟩ | ⟨-, c, a, b, heq⟩ | ⟨t, n, heq⟩ | ⟨i, -, heq⟩ := store_cases s v r
  all_goals rw [heq]

theorem hostRead_modelFault {s t : State} {address bytes : Nat}
    (ht : hostRead address bytes s = .next t) : t.modelFault = s.modelFault := by
  unfold hostRead at ht
  split at ht
  · cases ht
  · split at ht <;> cases ht <;> rfl

theorem hostWrite_modelFault {s t : State} {address bytes : Nat} {v : Word}
    (ht : hostWrite address bytes v s = .next t) : t.modelFault = s.modelFault := by
  unfold hostWrite at ht
  split at ht
  · cases ht
  · split at ht <;> cases ht
    exact store_modelFault _ _ _

/-- A step stops the model in a fault exactly where its event is that fault, for an event that does not
write the fault state where it goes through (R300). -/
theorem step_stops_iff {s : State} {ev : Input} {rest : List Input} (hf : s.modelFault = none)
    (hi : s.inputs = ev :: rest)
    (hk : ∀ t, onEvent { s with inputs := rest } ev = .next t → t.modelFault = none) (f : Fault) :
    step s = .next { s with modelFault := some f, inputs := rest } ↔
      onEvent { s with inputs := rest } ev = .fault f := by
  rw [step_event hf hi]
  generalize onEvent { s with inputs := rest } ev = o at hk ⊢
  cases o with
  | next t =>
    have hne : t ≠ { s with modelFault := some f, inputs := rest } := by
      rintro rfl
      cases hk _ rfl
    simpa using hne
  | fault g => simp
  | refused r => simp

/-- Settles O7: the step stops where the access is the fault, and that is where it has no offset. -/
theorem illegalAccessFaults : Obligations.IllegalAccessFaults := by
  intro s address bytes v rest hf
  have hoff := offset_eq_none_iff { s with inputs := rest } address bytes
  constructor
  · rw [← hoff, ← hostRead_fault_iff]
    exact step_stops_iff (s := { s with inputs := .hostRead address bytes :: rest }) hf rfl
      (fun _ ht => (hostRead_modelFault ht).trans hf) _
  · rw [← hoff, ← hostWrite_fault_iff _ _ _ v]
    exact step_stops_iff (s := { s with inputs := .hostWrite address bytes v :: rest }) hf rfl
      (fun _ ht => (hostWrite_modelFault ht).trans hf) _

theorem hostRead_busy {s : State} {address bytes off : Nat}
    (ho : s.offset address bytes = some off) (hb : s.busy = true) :
    hostRead address bytes s =
      .next { s with readData := s.busyView (regAt off), freeReads := s.freeReads + 1 } := by
  simp [hostRead, ho, hb]

theorem busyView_withInputs (s : State) (evs : List Input) (r : Reg) :
    ({ s with inputs := evs } : State).busyView r = s.busyView r := rfl

/-- Settles O8: a read gives the busy view of the register, and a write is the fault. -/
theorem accessesWhileBusy : Obligations.AccessesWhileBusy := by
  intro s off rest hf hb hoff
  have ho := offset_legal { s with inputs := rest } hoff
  refine ⟨⟨s.busyView (regAt off), ?_, ?_, ?_⟩, fun w => ?_⟩
  · have hread := hostRead_busy (s := { s with inputs := rest }) ho hb
    rw [busyView_withInputs] at hread
    exact (step_event (s := reading s off rest) hf rfl).trans (congrArg _ hread)
  · rintro rfl
    exact statusOf_busy _ _ _ _
  · rintro rfl
    rfl
  · have hwrite := hostWrite_busy (s := { s with inputs := rest }) ho hb w
    exact (step_event (s := writing s off w rest) hf rfl).trans (congrArg _ hwrite)

end Sys2Proof.Machine
end

section

/-! ## Encoding: the fields of a command word, the decoder and the opcode table -/

namespace Sys2Proof

open Machine

/-! ### The fields of a word -/

@[simp] theorem opcField_encode (i : Instr) : opcField (encode i) = i.opcode := pair_low _ _

@[simp] theorem imm8Field_encode (i : Instr) : imm8Field (encode i) = i.imm8 := pair_high _ _

@[simp] theorem rsvField_encode (i : Instr) : rsvField (encode i) = 0 := pair_above _ _

/-- The three fields leave out no bit of a word (R90). -/
theorem word_eq_fields (w : Word) :
    w = (rsvField w ++ imm8Field w ++ opcField w).cast (by decide) := by
  ext k hk
  simp only [rsvField, imm8Field, opcField, BitVec.getElem_cast, BitVec.getElem_append,
    BitVec.getElem_extractLsb']
  split_ifs <;> grind

/-- A word is a command's exactly when its fields are (R90, R100). -/
theorem encode_eq_iff {i : Instr} {w : Word} :
    encode i = w ↔ rsvField w = 0 ∧ opcField w = i.opcode ∧ imm8Field w = i.imm8 := by
  constructor
  · rintro rfl
    simp
  · rintro ⟨hrsv, hopc, himm⟩
    rw [word_eq_fields w, word_eq_fields (encode i)]
    simp [hrsv, hopc, himm]

/-! ### The decoder -/

theorem decodeC0_eq_ok_iff {imm8 : Byte} {i j : Instr} :
    decodeC0 imm8 i = .ok j ↔ imm8 = 0 ∧ i = j := by
  unfold decodeC0
  split
  · next h => simp [h]
  · next h => exact iff_of_false nofun fun ⟨hz, _⟩ => h hz

theorem decodeC0_error_iff {imm8 : Byte} {i : Instr} :
    (∃ e, decodeC0 imm8 i = .error e) ↔ imm8 ≠ 0 := by
  unfold decodeC0
  split
  · next h => simp [h]
  · next h => exact ⟨fun _ => h, fun _ => ⟨_, rfl⟩⟩

/-- A well-formed command's opcode and operand are read back (R91, R93). -/
theorem decodeOpc_opcode_imm8 {i : Instr} (h : i.wellFormed = true) :
    decodeOpc i.opcode i.imm8 = .ok i := by
  cases i with
  | cksAdd b | crcAdd b =>
    have hb : b ≤ 255 := by simpa [Instr.wellFormed] using h
    have hround : (BitVec.ofNat 8 b).toNat = b := Nat.mod_eq_of_lt (by omega)
    simp [decodeOpc, Instr.opcode, Instr.imm8, -BitVec.toNat_ofNat, hround]
  | _ => rfl

/-- What the opcode map gives is a well-formed command with that opcode and operand (R91, R93). -/
theorem fields_of_decodeOpc_eq_ok {opc imm8 : Byte} {i : Instr} (h : decodeOpc opc imm8 = .ok i) :
    i.wellFormed = true ∧ opc = i.opcode ∧ imm8 = i.imm8 := by
  unfold decodeOpc at h
  split at h
  case h_21 => cases h
  case h_3 hopc | h_7 hopc =>
    cases h
    have hle : imm8.toNat ≤ 255 := Nat.le_of_lt_succ imm8.isLt
    exact ⟨decide_eq_true hle, BitVec.eq_of_toNat_eq hopc,
      BitVec.eq_of_toNat_eq (by simp [Instr.imm8])⟩
  all_goals next hopc =>
    obtain ⟨rfl, rfl⟩ := decodeC0_eq_ok_iff.1 h
    exact ⟨rfl, BitVec.eq_of_toNat_eq hopc, rfl⟩

/-- The decoder inverts the encoder on the well-formed commands (R94, R100). -/
theorem decode_eq_ok_iff {w : Word} {i : Instr} :
    decode w = .ok i ↔ i.wellFormed = true ∧ encode i = w := by
  unfold decode
  constructor
  · intro h
    split at h
    · next hrsv =>
      obtain ⟨hwf, hopc, himm⟩ := fields_of_decodeOpc_eq_ok h
      exact ⟨hwf, encode_eq_iff.2 ⟨hrsv, hopc, himm⟩⟩
    · cases h
  · rintro ⟨hwf, rfl⟩
    simpa using decodeOpc_opcode_imm8 hwf

/-- Settles O1: the decoder inverts the encoder on the well-formed commands. -/
theorem decodeEncodeRoundTrip : Obligations.DecodeEncodeRoundTrip :=
  ⟨fun _ hwf => decode_eq_ok_iff.2 ⟨hwf, rfl⟩, fun _ _ => decode_eq_ok_iff.1⟩

/-! ### Which words are no command -/

/-- The opcode map refuses the unassigned opcodes, and an operand of a C0 command (R91, R93, R94). -/
theorem decodeOpc_error_iff (opc imm8 : Byte) :
    (∃ e, decodeOpc opc imm8 = .error e) ↔
      opc.toNat ∈ [5, 6, 7, 0xC, 0xD, 0xE, 0xF, 0x16, 0x17] ∨ 0x1D ≤ opc.toNat ∨
        (opc.toNat ≠ 0x02 ∧ opc.toNat ≠ 0x09 ∧ imm8 ≠ 0) := by
  unfold decodeOpc
  split
  case h_21 =>
    have hunassigned :
        opc.toNat ∈ [5, 6, 7, 0xC, 0xD, 0xE, 0xF, 0x16, 0x17] ∨ 0x1D ≤ opc.toNat := by
      simp only [List.mem_cons, List.not_mem_nil, or_false, imp_false] at *
      omega
    exact ⟨fun _ => or_assoc.1 (.inl hunassigned), fun _ => ⟨_, rfl⟩⟩
  case h_3 hopc | h_7 hopc => simp [hopc]
  all_goals next hopc => rw [decodeC0_error_iff]; simp [hopc]

theorem decode_error_iff (w : Word) :
    (∃ e, decode w = .error e) ↔
      rsvField w ≠ 0 ∨ ∃ e, decodeOpc (opcField w) (imm8Field w) = .error e := by
  unfold decode
  split
  · next hrsv => simp [hrsv]
  · next hrsv => exact ⟨fun _ => .inl hrsv, fun _ => ⟨_, rfl⟩⟩

/-! ### The rows of the opcode table -/

/-- The commands of format C8, the ones with an operand (R91). -/
def hasOperand : Instr → Bool
  | .cksAdd _ | .crcAdd _ => true
  | _ => false

/-- The row of a command: it fixes the opcode and the reserved field, and IMM8 for format C0 (R91,
R94). -/
def commandRow (i : Instr) : OpcodeRow :=
  ⟨i.mnemonic, if hasOperand i then 0xFFFF00FF else 0xFFFFFFFF, i.opcode.zeroExtend 32⟩

theorem opcodeTable_eq_map_commandRow :
    opcodeTable = [Instr.nop, .cksInit, .cksAdd 0, .cksBuf, .cksCheck, .crcInit, .crcAdd 0, .crcBuf,
      .crcCheck, .start, .stop, .send, .recv, .request, .msgPop, .l3Start, .l3Stop, .l3Send, .l3Recv,
      .l3Keepalive].map commandRow := by decide

theorem exists_commandRow_of_mem {r : OpcodeRow} (h : r ∈ opcodeTable) : ∃ i, commandRow i = r := by
  rw [opcodeTable_eq_map_commandRow] at h
  obtain ⟨i, -, hi⟩ := List.mem_map.1 h
  exact ⟨i, hi⟩

/-- A mnemonic names one row. -/
theorem opcodeTable_mnemonic_inj :
    ∀ r ∈ opcodeTable, ∀ r' ∈ opcodeTable, r.mnemonic = r'.mnemonic → r = r' := by decide

/-- A row's mask covers RSV and OPC, and IMM8 for format C0. -/
theorem commandRow_mask_fields (i : Instr) :
    rsvField (commandRow i).mask = BitVec.allOnes 16 ∧
      opcField (commandRow i).mask = BitVec.allOnes 8 ∧
      (hasOperand i = false → imm8Field (commandRow i).mask = BitVec.allOnes 8) := by
  dsimp only [commandRow]
  cases hasOperand i <;> decide

/-- A row's value is a bare opcode. -/
theorem fields_zeroExtend (c : Byte) :
    rsvField (c.zeroExtend 32) = 0 ∧ opcField (c.zeroExtend 32) = c ∧
      imm8Field (c.zeroExtend 32) = 0 :=
  ⟨by simpa [rsvField] using pair_above 0 c, by simpa [opcField] using pair_low 0 c,
    by simpa [imm8Field] using pair_high 0 c⟩

/-- The words of a row have its opcode, a reserved field of 0, and IMM8 of 0 for format C0 (R91, R94). -/
theorem fields_of_commandRow_holds {i : Instr} {w : Word} (h : (commandRow i).holds w = true) :
    rsvField w = 0 ∧ opcField w = i.opcode ∧ (hasOperand i = false → imm8Field w = 0) := by
  have hmask : w &&& (commandRow i).mask = i.opcode.zeroExtend 32 := eq_of_beq h
  obtain ⟨hrsv, hopc, himm⟩ := fields_zeroExtend i.opcode
  obtain ⟨mrsv, mopc, mimm⟩ := commandRow_mask_fields i
  rw [← hmask] at hrsv hopc himm
  simp only [rsvField, opcField, imm8Field, BitVec.extractLsb'_and] at hrsv hopc himm mrsv mopc mimm ⊢
  rw [mrsv, BitVec.and_allOnes] at hrsv
  rw [mopc, BitVec.and_allOnes] at hopc
  exact ⟨hrsv, hopc, fun hop => by rwa [mimm hop, BitVec.and_allOnes] at himm⟩

/-- The opcode map gives, for a command's opcode, a command of that mnemonic. -/
theorem decodeOpc_opcode (i : Instr) {imm8 : Byte} (h : hasOperand i = false → imm8 = 0) :
    ∃ j, decodeOpc i.opcode imm8 = .ok j ∧ j.mnemonic = i.mnemonic := by
  cases i with
  | cksAdd b => exact ⟨.cksAdd imm8.toNat, rfl, rfl⟩
  | crcAdd b => exact ⟨.crcAdd imm8.toNat, rfl, rfl⟩
  | _ => cases h rfl; exact ⟨_, rfl, rfl⟩

/-- A word of a row is a command with the row's mnemonic (R94). -/
theorem decode_of_row_holds {r : OpcodeRow} (hr : r ∈ opcodeTable) {w : Word} (h : r.holds w = true) :
    ∃ i, decode w = .ok i ∧ i.mnemonic = r.mnemonic := by
  obtain ⟨i, rfl⟩ := exists_commandRow_of_mem hr
  obtain ⟨hrsv, hopc, himm⟩ := fields_of_commandRow_holds h
  rw [decode, if_pos hrsv, hopc]
  exact decodeOpc_opcode i himm

/-- A well-formed command's word belongs to a row with its mnemonic (R94, R100). -/
theorem encode_holds_row (i : Instr) : Laws.EncodeRow.Statement i := by
  cases i with
  | nop => exact Laws.EncodeRow.nop
  | cksInit => exact Laws.EncodeRow.cksInit
  | cksAdd b => exact Laws.EncodeRow.cksAdd b
  | cksBuf => exact Laws.EncodeRow.cksBuf
  | cksCheck => exact Laws.EncodeRow.cksCheck
  | crcInit => exact Laws.EncodeRow.crcInit
  | crcAdd b => exact Laws.EncodeRow.crcAdd b
  | crcBuf => exact Laws.EncodeRow.crcBuf
  | crcCheck => exact Laws.EncodeRow.crcCheck
  | start => exact Laws.EncodeRow.start
  | stop => exact Laws.EncodeRow.stop
  | send => exact Laws.EncodeRow.send
  | recv => exact Laws.EncodeRow.recv
  | request => exact Laws.EncodeRow.request
  | msgPop => exact Laws.EncodeRow.msgPop
  | l3Start => exact Laws.EncodeRow.l3Start
  | l3Stop => exact Laws.EncodeRow.l3Stop
  | l3Send => exact Laws.EncodeRow.l3Send
  | l3Recv => exact Laws.EncodeRow.l3Recv
  | l3Keepalive => exact Laws.EncodeRow.l3Keepalive

/-- A command's word belongs to the row of its mnemonic and to no other (R94). -/
theorem unique_row_of_decode {w : Word} {i : Instr} (h : decode w = .ok i) :
    ∃ r ∈ opcodeTable, r.mnemonic = i.mnemonic ∧ r.holds w = true ∧
      ∀ r' ∈ opcodeTable, r'.holds w = true → r' = r := by
  obtain ⟨hwf, rfl⟩ := decode_eq_ok_iff.1 h
  obtain ⟨r, hr, hname, hholds⟩ := encode_holds_row i hwf
  refine ⟨r, hr, hname, hholds, fun r' hr' hholds' => opcodeTable_mnemonic_inj r' hr' r hr ?_⟩
  obtain ⟨j, hj, hname'⟩ := decode_of_row_holds hr' hholds'
  obtain rfl : j = i := Except.ok.inj (hj.symm.trans h)
  rw [← hname', hname]

theorem row_not_holds_of_decode_error {w : Word} {e : DecodeError} (h : decode w = .error e)
    {r : OpcodeRow} (hr : r ∈ opcodeTable) : r.holds w = false := by
  refine Bool.eq_false_iff.2 fun hholds => ?_
  obtain ⟨i, hi, -⟩ := decode_of_row_holds hr hholds
  cases hi.symm.trans h

/-! ### A word that is no command -/

/-- The engine completes a word that is no command with IllegalCommand, and changes nothing else
(R94). -/
theorem step_illegalWord {s : State} {w : Word} {e : DecodeError} {rest : List Input}
    (hf : s.modelFault = none) (hs : s.estate = .decode w) (hw : decode w = .error e)
    (hi : s.inputs = .engine :: rest) :
    step s = .next { Claims.ended s .illegalCommand with inputs := rest } := by
  rw [step_event hf hi]
  simp only [onEvent, State.fetch, hs, runWord, hw, stopAt_next]
  rfl

/-- Settles O2: the opcode map's refusals by field, the step, and the table by its rows' mnemonics. -/
theorem decodingRule : Obligations.DecodingRule := by
  refine ⟨fun w => ?_, fun _ _ _ _ hf hs hw hi => step_illegalWord hf hs hw hi,
    fun _ _ => unique_row_of_decode, fun _ _ h _ => row_not_holds_of_decode_error h⟩
  rw [decode_error_iff, decodeOpc_error_iff]
  exact or_left_comm.trans (or_congr_right or_left_comm)

/-- Settles O3: the words of the example, evaluated. -/
theorem workedEncodingExamples : Obligations.WorkedEncodingExamples :=
  ⟨by decide, opcField_encode (.cksAdd 0x48), imm8Field_encode (.cksAdd 0x48), by decide,
    ⟨.reservedBits, by decide⟩, by decide⟩

end Sys2Proof
end

section

/-! ## The engine does not look at the events to come

A step takes its event off the list before the engine acts, while `runOver` hands the engine a state
that still lists the events of its start; the two agree because no operation of the engine looks at the
events to come. -/

namespace Sys2Proof.Machine

/-- The state with other events to come. -/
def State.withInputs (evs : List Input) (s : State) : State := { s with inputs := evs }

/-- The operation does not look at the events to come, and leaves them as they are. -/
def IgnoresInputs (f : State → State) : Prop :=
  ∀ s evs, f (s.withInputs evs) = (f s).withInputs evs

/-- A choice ignores the events to come if both sides do and its condition is not about them. -/
theorem ite_withInputs {c : Prop} [Decidable c] {a b a' b' : State} {evs : List Input}
    (ha : a' = a.withInputs evs) (hb : b' = b.withInputs evs) :
    (if c then a' else b') = (if c then a else b).withInputs evs := by
  rw [ha, hb, apply_ite (State.withInputs evs)]

theorem proto_withInputs (s : State) (evs : List Input) : (s.withInputs evs).proto = s.proto := rfl

theorem lasttx_withInputs (s : State) (evs : List Input) : (s.withInputs evs).lasttx = s.lasttx := rfl

theorem estate_withInputs (s : State) (evs : List Input) : (s.withInputs evs).estate = s.estate := rfl

theorem complete_ignoresInputs (e : ErrCode) : IgnoresInputs (·.complete e) := fun _ _ => rfl

/-! ### Receivers -/

theorem splitFrame_withInputs (s : State) (evs : List Input) (ts : Word) (fuel : Nat)
    (rest : List Byte) : splitFrame (s.withInputs evs) ts fuel rest = splitFrame s ts fuel rest := by
  induction fuel generalizing rest with
  | zero => rfl
  | succ fuel ih =>
    have hp : pieceLen (s.withInputs evs) = pieceLen s := rfl
    have hc : check9141 (s.withInputs evs) = check9141 s := rfl
    simp only [splitFrame, ih, hp, hc]

theorem decode9141_withInputs (s : State) (evs : List Input) (frames : List RxFrame) :
    decode9141 (s.withInputs evs) frames = decode9141 s frames := by
  induction frames with
  | nil => rfl
  | cons f fs ih => simp only [decode9141, ih, splitFrame_withInputs]

theorem decode1850_withInputs (s : State) (evs : List Input) (frames : List RxFrame) :
    decode1850 (s.withInputs evs) frames = decode1850 s frames := by
  induction frames with
  | nil => rfl
  | cons f fs ih =>
    have hc : check1850 (s.withInputs evs) = check1850 s := rfl
    simp only [decode1850, ih, hc]

theorem appendMsgs_withInputs (s : State) (evs : List Input) (msgs : List Message) :
    (s.withInputs evs).appendMsgs msgs = (s.appendMsgs msgs).map (State.withInputs evs) := by
  unfold State.appendMsgs
  rw [apply_ite (Option.map (State.withInputs evs))]
  rfl

theorem deliver_ignoresInputs (c : Receiver) (msgs : List Message) :
    IgnoresInputs (deliver · c msgs) := by
  intro s evs
  cases c with
  | recv | request | l3Framed =>
    simp only [deliver, appendMsgs_withInputs]
    cases s.appendMsgs msgs <;> rfl
  | keepalive => rfl

theorem deliverDecoded_ignoresInputs (c : Receiver) (o : Option (List Message)) :
    IgnoresInputs (deliverDecoded · c o) := by
  cases o with
  | none => exact complete_ignoresInputs _
  | some msgs => exact deliver_ignoresInputs c msgs

theorem enterAccum_ignoresInputs (c : Receiver) (frames : List RxFrame) (cur : List Byte)
    (ts : Word) : IgnoresInputs (enterAccum · c frames cur ts) :=
  fun _ _ => ite_withInputs rfl rfl

theorem onRxWaitFirst_ignoresInputs (c : Receiver) (time : Word) (r : RecvResult) :
    IgnoresInputs (onRxWaitFirst · c time r) := by
  cases r with
  | data d => exact enterAccum_ignoresInputs c [] d time
  | err e => exact complete_ignoresInputs _

theorem onRxAccum_ignoresInputs (c : Receiver) (frames : List RxFrame) (cur : List Byte) (ts : Word)
    (r : RecvResult) : IgnoresInputs (onRxAccum · c frames cur ts r) := by
  cases r with
  | data d => exact enterAccum_ignoresInputs c frames (cur ++ d) ts
  | err e => cases e <;> exact fun _ _ => rfl

theorem onRxWaitMore_ignoresInputs (c : Receiver) (frames : List RxFrame) (time : Word)
    (r : RecvResult) : IgnoresInputs (onRxWaitMore · c frames time r) := by
  cases r with
  | data d => exact enterAccum_ignoresInputs c frames d time
  | err e =>
    cases e with
    | timeout =>
      intro s evs
      simp only [onRxWaitMore, decode9141_withInputs]
      exact deliverDecoded_ignoresInputs c _ s evs
    | busError | ioError => exact complete_ignoresInputs _

theorem onRxRaw_ignoresInputs (c : Receiver) (time : Word) (r : RecvResult) :
    IgnoresInputs (onRxRaw · c time r) := by
  cases r with
  | data d => exact deliver_ignoresInputs c _
  | err e => exact complete_ignoresInputs _

theorem busRetry_ignoresInputs (c : Receiver) (n : Nat) : IgnoresInputs (busRetry · c n) := by
  intro s evs
  simp only [busRetry, lasttx_withInputs]
  refine ite_withInputs rfl ?_
  cases s.lasttx <;> rfl

theorem onRx1850_ignoresInputs (c : Receiver) (frames : List RxFrame) (n : Nat) (time : Word)
    (r : RecvResult) : IgnoresInputs (onRx1850 · c frames n time r) := by
  cases r with
  | data d => exact fun _ _ => rfl
  | err e =>
    cases e with
    | timeout =>
      intro s evs
      simp only [onRx1850, decode1850_withInputs]
      exact ite_withInputs rfl (deliverDecoded_ignoresInputs c _ (s.setRetries n) evs)
    | busError => exact busRetry_ignoresInputs c n
    | ioError => exact fun _ _ => rfl

theorem beginReceive_ignoresInputs (c : Receiver) : IgnoresInputs (beginReceive · c) := by
  intro s evs
  simp only [beginReceive, proto_withInputs]
  cases s.proto with
  | none => rfl
  | some p =>
    cases p with
    | j1850 => exact ite_withInputs rfl rfl
    | iso9141 | iso14230 | raw | vag => rfl

/-! ### The byte path -/

theorem byteFinish_ignoresInputs (p : ByteRun) (e : ErrCode) : IgnoresInputs (byteFinish · p e) := by
  intro s evs
  unfold byteFinish
  split <;> rfl

theorem byteStep_withInputs (s : State) (evs : List Input) (p : ByteRun) :
    byteStep (s.withInputs evs) p = ((byteStep s p).1.withInputs evs, (byteStep s p).2) := rfl

theorem l3Read_withInputs (s : State) {evs : List Input} (t : Nat) (k : RecvKont)
    {onErr onErr' : ErrCode → State} (he : ∀ e, onErr' e = (onErr e).withInputs evs) :
    l3Read (s.withInputs evs) t k onErr' = (l3Read s t k onErr).withInputs evs :=
  ite_withInputs (he _) (ite_withInputs (he _) rfl)

theorem drainError_ignoresInputs (p : ByteRun) (e : ErrCode) : IgnoresInputs (drainError · p e) :=
  fun s evs => ite_withInputs (byteFinish_ignoresInputs p _ s evs) (byteFinish_ignoresInputs p _ s evs)

theorem enterDrain_ignoresInputs (p : ByteRun) : IgnoresInputs (enterDrain · p) := fun s evs =>
  l3Read_withInputs s _ _ (drainError_ignoresInputs p · s evs)

theorem enterNormal_ignoresInputs (p : ByteRun) : IgnoresInputs (enterNormal · p) := fun s evs =>
  l3Read_withInputs s _ _ (byteFinish_ignoresInputs p · s evs)

theorem probeStep_ignoresInputs (p : ByteRun) : IgnoresInputs (probeStep · p) := by
  intro s evs
  simp only [probeStep_eq, byteStep_withInputs]
  exact ite_withInputs (byteFinish_ignoresInputs _ _ _ _)
    (ite_withInputs (byteFinish_ignoresInputs _ _ _ _) (enterNormal_ignoresInputs _ _ _))

theorem probeError_ignoresInputs (p : ByteRun) (e : ErrCode) : IgnoresInputs (probeError · p e) :=
  fun s evs => ite_withInputs (probeStep_ignoresInputs p s evs) (byteFinish_ignoresInputs p _ s evs)

theorem enterProbe_ignoresInputs (p : ByteRun) : IgnoresInputs (enterProbe · p) := fun s evs =>
  l3Read_withInputs s _ _ (probeError_ignoresInputs p · s evs)

theorem takeBytes_withInputs (s : State) (evs : List Input) (d : List Byte) :
    (s.withInputs evs).takeBytes d = (s.takeBytes d).withInputs evs := rfl

theorem onL3Probe_ignoresInputs (p : ByteRun) (r : RecvResult) : IgnoresInputs (onL3Probe · p r) := by
  cases r with
  | data d => exact fun s evs => probeStep_ignoresInputs p (s.takeBytes d) evs
  | err e => exact probeError_ignoresInputs p _

theorem onL3Normal_ignoresInputs (p : ByteRun) (r : RecvResult) :
    IgnoresInputs (onL3Normal · p r) := by
  intro s evs
  cases r with
  | data d =>
    simp only [onL3Normal_data, takeBytes_withInputs, byteStep_withInputs]
    exact ite_withInputs (byteFinish_ignoresInputs _ _ _ _)
      (ite_withInputs (byteFinish_ignoresInputs _ _ _ _) (enterDrain_ignoresInputs _ _ _))
  | err e => exact byteFinish_ignoresInputs p _ s evs

theorem onL3Drain_ignoresInputs (p : ByteRun) (r : RecvResult) :
    IgnoresInputs (onL3Drain · p r) := by
  intro s evs
  cases r with
  | data d =>
    simp only [onL3Drain_data, takeBytes_withInputs, byteStep_withInputs]
    exact ite_withInputs (byteFinish_ignoresInputs _ _ _ _) (enterDrain_ignoresInputs _ _ _)
  | err e => exact drainError_ignoresInputs p _ s evs

/-! ### Senders -/

theorem keepaliveReceive_ignoresInputs : IgnoresInputs keepaliveReceive := fun s evs =>
  ite_withInputs (beginReceive_ignoresInputs .keepalive (s.setRetries 0) evs)
    (enterProbe_ignoresInputs _ s evs)

theorem afterEmit_ignoresInputs (c : Sender) (frame : List Byte) :
    IgnoresInputs (afterEmit · c frame) := by
  intro s evs
  cases c with
  | send | l3Send => rfl
  | request => exact beginReceive_ignoresInputs .request { s with lasttx := some frame } evs
  | keepalive =>
    exact keepaliveReceive_ignoresInputs { s with lasttx := some frame, l3idle := s.now } evs

theorem onEmitFrame_ignoresInputs (c : Sender) (frame : List Byte) (r : Option L0Err) :
    IgnoresInputs (onEmitFrame · c frame r) := by
  cases r with
  | none => exact afterEmit_ignoresInputs c frame
  | some e => exact complete_ignoresInputs _

/-! ### Sleeps -/

theorem wake_ignoresInputs (k : SleepKont) : IgnoresInputs (wake · k) := by
  cases k <;> exact fun _ _ => rfl

theorem sleepThen_ignoresInputs (d : Nat) (k : SleepKont) : IgnoresInputs (sleepThen · d k) :=
  fun s evs => ite_withInputs (wake_ignoresInputs k s evs) rfl

theorem onEmitByte_ignoresInputs (c : Sender) (frame rest : List Byte) (r : Option L0Err) :
    IgnoresInputs (onEmitByte · c frame rest r) := by
  cases r with
  | none =>
    exact fun s evs => ite_withInputs (afterEmit_ignoresInputs c frame s evs)
      (sleepThen_ignoresInputs _ _ s evs)
  | some e => exact complete_ignoresInputs _

/-! ### The initialisation machines -/

theorem failDown_ignoresInputs (e : ErrCode) : IgnoresInputs (failDown · e) := fun _ _ => rfl

theorem loadConnection_ignoresInputs (f : BitVec 9) : IgnoresInputs (loadConnection · f) := by
  intro s evs
  simp only [loadConnection, proto_withInputs]
  cases s.proto <;> rfl

theorem onGetFlags_ignoresInputs (f : BitVec 9) (init : InitKind) :
    IgnoresInputs (onGetFlags · f init) := by
  intro s evs
  simp only [onGetFlags, loadConnection_ignoresInputs f s evs]
  cases init with
  | noInit => rfl
  | fiveBaud v => exact ite_withInputs rfl rfl
  | fast => exact ite_withInputs (sleepThen_ignoresInputs _ _ _ evs) rfl

theorem onS5Flush_ignoresInputs (v : KeyVariant) (r : Option L0Err) :
    IgnoresInputs (onS5Flush · v r) := by
  cases r with
  | none => exact fun s evs => sleepThen_ignoresInputs _ _ s evs
  | some e => exact failDown_ignoresInputs _

theorem refineP2_withInputs (s : State) (evs : List Input) :
    refineP2 (s.withInputs evs) = (refineP2 s).withInputs evs :=
  ite_withInputs rfl (ite_withInputs rfl rfl)

theorem s5Check_ignoresInputs (v : KeyVariant) : IgnoresInputs (s5Check · v) := by
  intro s evs
  simp only [s5Check, refineP2_withInputs]
  exact ite_withInputs (ite_withInputs rfl (sleepThen_ignoresInputs _ _ _ evs)) rfl

theorem onS5Kb2_ignoresInputs (v : KeyVariant) (r : RecvResult) : IgnoresInputs (onS5Kb2 · v r) := by
  cases r with
  | data d =>
    exact fun s evs => s5Check_ignoresInputs v { s with keybytes := d.getD 0 0 ++ s.kb1 } evs
  | err e => exact failDown_ignoresInputs _

theorem onS5RxInv_ignoresInputs (r : RecvResult) : IgnoresInputs (onS5RxInv · r) := by
  cases r with
  | data d => exact fun s evs => ite_withInputs rfl rfl
  | err e => exact failDown_ignoresInputs _

/-! ### The engine -/

theorem onAck_ignoresInputs (r : Option L0Err) (k : AckKont) : IgnoresInputs (onAck · r k) := by
  cases k with
  | startSetSpeed | s5Init | s5TxInv | fInit | rx1850Resend => cases r <;> exact fun _ _ => rfl
  | s5Flush v => exact onS5Flush_ignoresInputs v r
  | emitFrame c frame => exact onEmitFrame_ignoresInputs c frame r
  | emitByte c frame rest => exact onEmitByte_ignoresInputs c frame rest r

theorem onRecv_ignoresInputs (r : RecvResult) (time : Word) (k : RecvKont) :
    IgnoresInputs (onRecv · r time k) := by
  cases k with
  | s5Kb1 v => cases r <;> exact fun _ _ => rfl
  | s5Kb2 v => exact onS5Kb2_ignoresInputs v r
  | s5RxInv => exact onS5RxInv_ignoresInputs r
  | rxWaitFirst c => exact onRxWaitFirst_ignoresInputs c time r
  | rxAccum c frames cur ts => exact onRxAccum_ignoresInputs c frames cur ts r
  | rxWaitMore c frames => exact onRxWaitMore_ignoresInputs c frames time r
  | rxRaw c => exact onRxRaw_ignoresInputs c time r
  | rx1850 c frames n => exact onRx1850_ignoresInputs c frames n time r
  | l3Probe p => exact onL3Probe_ignoresInputs p r
  | l3Normal p => exact onL3Normal_ignoresInputs p r
  | l3Drain p => exact onL3Drain_ignoresInputs p r

/-- What the engine does next does not depend on the events to come (R9). -/
theorem act_ignoresInputs : IgnoresInputs act := by
  intro s evs
  simp only [act, estate_withInputs]
  cases s.estate with
  | idle | decode | awaitAck | awaitFlags | awaitRecv => rfl
  | answeredAck r k => exact onAck_ignoresInputs r k s evs
  | answeredFlags f init => exact onGetFlags_ignoresInputs f init s evs
  | answeredRecv r time k => exact onRecv_ignoresInputs r time k s evs
  | sleeping t0 d k => exact ite_withInputs (wake_ignoresInputs k s evs) rfl

/-- What an answer settles does not depend on the events to come (R62). -/
theorem answer_ignoresInputs (a : L0Answer) : IgnoresInputs (·.answer a) := by
  intro s evs
  simp only [State.answer, estate_withInputs]
  cases s.estate with
  | awaitAck op k =>
    cases a with
    | err e => exact ite_withInputs rfl rfl
    | ok | flags | data => rfl
  | awaitFlags init => cases a <;> rfl
  | awaitRecv m t k =>
    cases a with
    | data bs => exact ite_withInputs rfl rfl
    | ok | flags | err => rfl
  | idle | decode | answeredAck | answeredFlags | answeredRecv | sleeping => rfl

end Sys2Proof.Machine
end

section

/-! ## Single steps: the decoded command, and the run of a command as its steps -/

namespace Sys2Proof.Machine

/-- A running command is past its decoding (R107). -/
theorem fetch_eq_none_of_running {s : State} (h : s.estate.running = true) : s.fetch = none := by
  unfold State.fetch
  split
  · rename_i w hw
    rw [hw] at h
    cases h
  · rfl

/-- An event that a running command takes is one that a step gives to the engine, the clock or the L0
port, and it does not depend on the events that follow it (R9). -/
theorem onEvent_withInputs {s t : State} {ev : Input} (hr : s.estate.running = true)
    (he : engineEvent s ev = some t) (rest : List Input) :
    onEvent (s.withInputs rest) ev = .next (t.withInputs rest) := by
  cases ev with
  | tick => cases he; rfl
  | answer a =>
    cases he
    exact congrArg Host.Outcome.next (answer_ignoresInputs a s rest)
  | engine =>
    cases he
    have hfetch : (s.withInputs rest).fetch = none := fetch_eq_none_of_running hr
    simp only [onEvent, hfetch, act_ignoresInputs s rest]
  | reset | hostRead | hostWrite => cases he

theorem answer_modelFault (s : State) (a : L0Answer) : (s.answer a).modelFault = s.modelFault := by
  obtain heq | ⟨op, k, -, ⟨-, heq⟩ | ⟨e, -, -, heq⟩⟩ | ⟨init, f, -, -, heq⟩ |
    ⟨m, n, k, -, ⟨d, -, -, -, heq⟩ | ⟨e, -, heq⟩⟩ := answer_cases s a
  · rw [heq]
  all_goals rw [heq, settle_modelFault]

/-- No event that a running command takes stops the model (R300). -/
theorem engineEvent_modelFault {s t : State} {ev : Input} (h : engineEvent s ev = some t) :
    t.modelFault = s.modelFault := by
  cases ev with
  | tick => cases h; rfl
  | answer a =>
    cases h
    exact answer_modelFault s a
  | engine =>
    cases h
    obtain ⟨i, hact⟩ := act_stretch_self s
    exact hact.modelFault
  | reset | hostRead | hostWrite => cases h

/-- An event that a running command takes is one step. -/
theorem step_of_engineEvent {s t : State} {ev : Input} (hf : s.modelFault = none)
    (hr : s.estate.running = true) (he : engineEvent s ev = some t) (rest : List Input) :
    step (s.withInputs (ev :: rest)) = .next (t.withInputs rest) := by
  have hstep := step_event (s := s.withInputs (ev :: rest)) hf rfl
  exact hstep.trans (congrArg _ (onEvent_withInputs hr he rest))

theorem run_succ_of_step {s t : State} (h : step s = .next t) (k : Nat) :
    Host.Core.run Sys2Proof.core (k + 1) s = Host.Core.run Sys2Proof.core k t := by
  have hcore : Sys2Proof.core.step s = .next t := h
  simp only [Host.Core.run, hcore]

/-- Each event that the run takes is one step, and a suspended or ended run takes none (R107, R182). -/
theorem exists_run_eq_runOver {s : State} (hf : s.modelFault = none) (evs : List Input) :
    ∃ k, Host.Core.run Sys2Proof.core k (s.withInputs evs) = .next (runOver evs s) := by
  induction evs generalizing s with
  | nil => exact ⟨0, rfl⟩
  | cons ev rest ih =>
    cases hr : s.estate.running with
    | false => exact ⟨0, by rw [runOver_of_not_running hr]; rfl⟩
    | true =>
      cases he : engineEvent s ev with
      | none => exact ⟨0, by rw [runOver_suspended he]; rfl⟩
      | some t =>
        obtain ⟨k, hk⟩ := ih ((engineEvent_modelFault he).trans hf)
        refine ⟨k + 1, ?_⟩
        rw [run_succ_of_step (step_of_engineEvent hf hr he rest), hk, runOver_cons hr he]

/-- Settles O5, by induction over the events to come. -/
theorem commandRunIsItsSteps : Obligations.CommandRunIsItsSteps := fun s hf _ =>
  exists_run_eq_runOver hf s.inputs

/-- Settles O4: a step is its event, and the engine's event on a command word runs the command. -/
theorem stepRunsDecodedCommand : Obligations.StepRunsDecodedCommand := by
  intro s w i rest hf hs hw hi
  rw [step_event hf hi]
  simp only [onEvent, State.fetch, hs, runWord, hw]
  cases exec i { s with inputs := rest } <;> rfl

/-- Settles O24: NOP is the completion with OK and nothing else. -/
theorem nopChangesOnlyErr : Obligations.NopChangesOnlyErr := fun _ => rfl

end Sys2Proof.Machine
end

section

/-! ## The laws of the checksum and of the CRC -/

namespace Sys2Proof.Machine

/-! ### One changed byte of a frame -/

/-- A check function that tells apart two sequences which differ in one byte. -/
def SeesEachByte (f : List Byte → Byte) : Prop :=
  ∀ (l r : List Byte) (x y : Byte), f (l ++ x :: r) = f (l ++ y :: r) → x = y

theorem SeesEachByte.set_ne {f : List Byte → Byte} (hf : SeesEachByte f) {s : List Byte} {i : Nat}
    {b : Byte} (hi : i < s.length) (hb : s[i] ≠ b) : f (s.set i b) ≠ f s := by
  have hs : s = s.take i ++ s[i] :: s.drop (i + 1) := by simp
  intro h
  rw [List.set_eq_take_append_cons_drop, if_pos hi] at h
  conv at h => rhs; rw [hs]
  exact hb (hf _ _ _ _ h).symm

/-- A frame that ends with such a check byte no longer validates once one byte of it, the check byte
included, has changed (R111, R115). -/
theorem SeesEachByte.frame_set_invalid {f : List Byte → Byte} (hf : SeesEachByte f) {s : List Byte}
    {i : Nat} {b : Byte} (hi : i < (s ++ [f s]).length) (hb : (s ++ [f s])[i]? ≠ some b) :
    ((s ++ [f s]).set i b).getLast? ≠ some (f ((s ++ [f s]).set i b).dropLast) := by
  by_cases hlt : i < s.length
  · have hsi : s[i] ≠ b := by simpa [List.getElem?_append_left hlt, hlt] using hb
    rw [List.set_append_left _ _ hlt, List.getLast?_concat, List.dropLast_concat]
    simpa using (hf.set_ne hlt hsi).symm
  · obtain rfl : i = s.length := by simp at hi; omega
    have hcheck : f s ≠ b := by simpa using hb
    simpa using hcheck.symm

/-! ### The checksum -/

theorem checksum_append (s t : List Byte) : checksum (s ++ t) = checksum s + checksum t := by
  simp [checksum, BitVec.ofNat_add]

theorem checksum_cons (x : Byte) (s : List Byte) : checksum (x :: s) = x + checksum s := by
  simp [checksum, BitVec.ofNat_add]

theorem checksum_perm {s t : List Byte} (h : s.Perm t) : checksum s = checksum t :=
  congrArg (BitVec.ofNat 8) (h.map BitVec.toNat).sum_eq

theorem checksum_seesEachByte : SeesEachByte checksum := by
  intro l r x y h
  rw [checksum_append, checksum_append, checksum_cons, checksum_cons] at h
  exact add_right_cancel (add_left_cancel h)

/-- Settles O18: the two changed bytes that it does not see are a transposition. -/
theorem checksumLaws : Obligations.ChecksumLaws :=
  ⟨checksum_append, fun _ _ => checksum_perm, fun s => by simp,
    fun _ _ _ => checksum_seesEachByte.frame_set_invalid,
    [0x01, 0x02], 0, 1, 0x02, 0x01, by decide⟩

/-! ### The CRC register is linear

`crc_step` is linear over GF(2) in the register and the bit together (R112), and so is `crc_byte`: what
one changed byte does to the register is what it does alone, from register 0. -/

theorem crcStep_xor (c d : Byte) (x y : Bool) :
    crcStep (c ^^^ d) (x ^^ y) = crcStep c x ^^^ crcStep d y := by
  have hfeedback : ((c ^^^ d).getLsbD 7 ^^ (x ^^ y)) =
      ((c.getLsbD 7 ^^ x) ^^ (d.getLsbD 7 ^^ y)) := by
    rw [BitVec.getLsbD_xor, Bool.xor_assoc, Bool.xor_assoc, Bool.xor_left_comm x]
  simp only [crcStep, hfeedback, BitVec.shiftLeft_xor_distrib]
  cases c.getLsbD 7 ^^ x <;> cases d.getLsbD 7 ^^ y
  · rfl
  · exact BitVec.xor_assoc ..
  · change c <<< 1 ^^^ d <<< 1 ^^^ 0x1D = c <<< 1 ^^^ 0x1D ^^^ d <<< 1
    ac_rfl
  · calc c <<< 1 ^^^ d <<< 1
        = c <<< 1 ^^^ d <<< 1 ^^^ (0x1D ^^^ 0x1D) := BitVec.xor_zero.symm
      _ = c <<< 1 ^^^ 0x1D ^^^ (d <<< 1 ^^^ 0x1D) := by ac_rfl

theorem crcByte_xor (c d a b : Byte) :
    crcByte (c ^^^ d) (a ^^^ b) = crcByte c a ^^^ crcByte d b := by
  simp only [crcByte, List.foldl_cons, List.foldl_nil, BitVec.getLsbD_xor, crcStep_xor]

/-- A data bit equal to the register's top bit cancels the feedback (R112). -/
theorem crcStep_shiftLeft (b : Byte) {j : Nat} (hj : j ≤ 7) :
    crcStep (b <<< j) (b.getLsbD (7 - j)) = b <<< (j + 1) := by
  have htop : (b <<< j).getLsbD 7 = b.getLsbD (7 - j) := by
    rw [BitVec.getLsbD_shiftLeft]
    simp [Nat.not_lt.mpr hj]
  rw [crcStep, htop, Bool.xor_self, if_neg Bool.false_ne_true, BitVec.shiftLeft_add]

/-- A byte equal to the register shifts it out. -/
theorem crcByte_self (b : Byte) : crcByte b b = 0 := by
  have h (j : Nat) (hj : j ≤ 7) := crcStep_shiftLeft b hj
  calc crcByte b b = crcByte (b <<< 0) b := by rw [BitVec.shiftLeft_zero]
    _ = b <<< 8 := by
      simp only [crcByte, List.foldl_cons, List.foldl_nil]
      rw [h 0, h 1, h 2, h 3, h 4, h 5, h 6, h 7] <;> decide
    _ = 0 := BitVec.shiftLeft_eq_zero le_rfl

/-- A byte acts on the register as if it had been added to it beforehand. -/
theorem crcByte_eq_crcByte_xor_zero (c b : Byte) : crcByte c b = crcByte (c ^^^ b) 0 := by
  have h := crcByte_xor c b b b
  rwa [crcByte_self, BitVec.xor_self, show crcByte c b ^^^ 0 = crcByte c b from BitVec.xor_zero,
    eq_comm] at h

/-- The generator's constant term is 1, so that no step loses the register (R112). -/
theorem eq_zero_of_crcStep_false {c : Byte} (h : crcStep c false = 0) : c = 0 := by
  unfold crcStep at h
  split at h
  · have hbit := congrArg (BitVec.getLsbD · 0) h
    simp at hbit
  · rename_i htop
    have hmsb : c.msb = false := by simpa [BitVec.msb_eq_getLsbD_last] using htop
    have hlow : c.toNat < 2 ^ 7 := BitVec.toNat_lt_of_msb_false hmsb
    have hshift : c.toNat <<< 1 % 2 ^ 8 = 0 := congrArg BitVec.toNat h
    rw [Nat.shiftLeft_eq] at hshift
    exact BitVec.eq_of_toNat_eq (show c.toNat = 0 by omega)

theorem eq_zero_of_crcByte_zero {c : Byte} (h : crcByte c 0 = 0) : c = 0 := by
  simp only [crcByte, List.foldl_cons, List.foldl_nil] at h
  iterate 8 replace h := eq_zero_of_crcStep_false h
  exact h

theorem crcByte_zero_injective : Function.Injective (crcByte · 0) := fun c d h => by
  have hxor : crcByte (c ^^^ d) 0 = 0 := by
    calc crcByte (c ^^^ d) 0 = crcByte (c ^^^ d) (0 ^^^ 0) := rfl
      _ = crcByte c 0 ^^^ crcByte d 0 := crcByte_xor ..
      _ = 0 := BitVec.xor_eq_zero_iff.mpr h
  exact BitVec.xor_eq_zero_iff.mp (eq_zero_of_crcByte_zero hxor)

theorem crcByte_left_injective (b : Byte) : Function.Injective (crcByte · b) := fun c d h => by
  simp only [crcByte_eq_crcByte_xor_zero _ b] at h
  exact (BitVec.xor_left_inj _).mp (crcByte_zero_injective h)

theorem crcByte_right_injective (c : Byte) : Function.Injective (crcByte c) := fun a b h => by
  rw [crcByte_eq_crcByte_xor_zero, crcByte_eq_crcByte_xor_zero c b] at h
  exact (BitVec.xor_right_inj _).mp (crcByte_zero_injective h)

/-! ### The CRC of a sequence -/

theorem crcFrom_append (c : Byte) (s t : List Byte) : crcFrom c (s ++ t) = crcFrom (crcFrom c s) t :=
  List.foldl_append

theorem crcFrom_injective (s : List Byte) : Function.Injective (crcFrom · s) := by
  induction s with
  | nil => exact fun _ _ h => h
  | cons b s ih => exact ih.comp (crcByte_left_injective b)

theorem crc8_seesEachByte : SeesEachByte crc8 := by
  intro l r x y h
  have hreg : crcReg (l ++ x :: r) = crcReg (l ++ y :: r) := BitVec.not_inj.mp h
  simp only [crcReg, crcFrom_append] at hreg
  exact crcByte_right_injective _ (crcFrom_injective r hreg)

theorem byte_xor_not_self (c : Byte) : c ^^^ ~~~c = 0xFF := by
  rw [← BitVec.xor_allOnes, ← BitVec.xor_assoc, BitVec.xor_self, BitVec.zero_xor]
  rfl

/-- The inverted register, fed in after the sequence, leaves the same register for every
sequence (R115). -/
theorem crcReg_append_crc8 (s : List Byte) : crcReg (s ++ [crc8 s]) = 0xC4 := by
  calc crcReg (s ++ [crc8 s])
      = crcByte (crcReg s) (~~~crcReg s) := crcFrom_append _ _ _
    _ = crcByte (crcReg s ^^^ ~~~crcReg s) 0 := crcByte_eq_crcByte_xor_zero _ _
    _ = crcByte 0xFF 0 := by rw [byte_xor_not_self]
    _ = 0xC4 := by decide

/-! ### The per-bit table -/

theorem shiftLeft_one_or_one (c : Byte) : (c <<< 1) ||| 1 = (c <<< 1) ^^^ 1 := by
  ext i hi
  cases i <;> simp

theorem crcStepTable_eq_crcStep (c : Byte) (x : Bool) : crcStepTable c x = crcStep c x := by
  unfold crcStepTable crcStep
  cases x <;> cases c.getLsbD 7
  · simp [crcPoly]
  · simp [crcPoly]
  · change (c <<< 1 ||| 1) ^^^ (0x1C : Byte) = c <<< 1 ^^^ (0x1D : Byte)
    rw [shiftLeft_one_or_one, BitVec.xor_assoc]
    rfl
  · change (c <<< 1 ||| 1) ^^^ (1 : Byte) = c <<< 1
    rw [shiftLeft_one_or_one, BitVec.xor_assoc, BitVec.xor_self]
    exact BitVec.xor_zero

/-- Settles O19, by the linearity of the register. -/
theorem crcLaws : Obligations.CrcLaws :=
  ⟨⟨crcFrom_append 0xFF, crcReg_append_crc8, fun _ _ _ => crc8_seesEachByte.frame_set_invalid,
    by decide +kernel, by decide +kernel⟩, crcStepTable_eq_crcStep⟩

end Sys2Proof.Machine
end

section

/-! ## The checksum and CRC commands, and every command that reads TXBUF -/

namespace Sys2Proof.Machine

open Claims

/-! ### The accumulators -/

/-- Settles O20: only the sum of CKS_ADD is more than the model's own definition. -/
theorem accumulatorCommands : Obligations.AccumulatorCommands := by
  intro s b _
  have hsum : s.cksum + BitVec.ofNat 8 b = BitVec.ofNat 8 ((s.cksum.toNat + b) % 256) :=
    BitVec.eq_of_toNat_eq (by simp)
  have hadd : exec (.cksAdd b) s = .next { ended s .ok with cksum := s.cksum + BitVec.ofNat 8 b } :=
    rfl
  exact ⟨rfl, hsum ▸ hadd, rfl, rfl⟩

/-! ### The three answers of reading TXBUF (R116) -/

theorem readRange_eq_none {m : Memory} {i n j : Nat} (hj : j < n) (h : m.read (i + j) = none) :
    m.readRange i n = none := by
  cases hr : m.readRange i n with
  | none => rfl
  | some bs =>
    obtain ⟨hlen, hread⟩ := readRange_eq_some.mp hr
    have hsome := hread j (hlen ▸ hj)
    rw [h] at hsome
    cases hsome

theorem txbytes_of_txHolds {s : State} {bs : List Byte} (h : TxHolds s bs) : s.txbytes = .bytes bs := by
  obtain ⟨hlen, hcap, hread⟩ := h
  have hle : ¬s.txlen.toNat > Config.txCap := by rw [← hlen]; exact Nat.not_lt.mpr hcap
  have hrange : s.txbuf.readRange 0 s.txlen.toNat = some bs :=
    readRange_eq_some.mpr ⟨hlen, fun j hj => by rw [Nat.zero_add]; exact hread j hj⟩
  simp only [State.txbytes, if_neg hle, hrange]

theorem txbytes_of_tooLong {s : State} (h : 64 < s.txlen.toNat) : s.txbytes = .tooLong := if_pos h

theorem txbytes_of_unwritten {s : State} {i : Nat} (hcap : s.txlen.toNat ≤ 64)
    (hi : i < s.txlen.toNat) (h : s.txbuf.read i = none) : s.txbytes = .unwritten := by
  have hle : ¬s.txlen.toNat > Config.txCap := Nat.not_lt.mpr hcap
  have hrange : s.txbuf.readRange 0 s.txlen.toNat = none :=
    readRange_eq_none hi (by rwa [Nat.zero_add])
  simp only [State.txbytes, if_neg hle, hrange]

theorem onTxBytes_of_bytes {s : State} {bs : List Byte} (h : s.txbytes = .bytes bs)
    (k : List Byte → State) : s.onTxBytes k = .next (k bs) := by
  simp only [State.onTxBytes, h]

theorem onTxBytes_of_tooLong {s : State} (h : s.txbytes = .tooLong) (k : List Byte → State) :
    s.onTxBytes k = .next (s.complete .badLength) := by
  simp only [State.onTxBytes, h]

theorem onTxBytes_of_unwritten {s : State} (h : s.txbytes = .unwritten) (k : List Byte → State) :
    s.onTxBytes k = .fault .unwrittenTxbuf := by
  simp only [State.onTxBytes, h]

/-! ### The buffer commands -/

/-- Settles O21. -/
theorem bufferCommands : Obligations.BufferCommands :=
  ⟨fun _ _ h =>
    have hbytes := txbytes_of_txHolds h
    ⟨onTxBytes_of_bytes hbytes _, onTxBytes_of_bytes hbytes _⟩,
   fun _ h =>
    have hlong := txbytes_of_tooLong h
    ⟨onTxBytes_of_tooLong hlong _, onTxBytes_of_tooLong hlong _⟩⟩

theorem lastByteIs_iff (f : List Byte → Byte) (bs : List Byte) :
    lastByteIs f bs = true ↔ ∃ h : bs ≠ [], bs.getLast h = f bs.dropLast := by
  by_cases hbs : bs = []
  · simp [lastByteIs, hbs]
  · simp [lastByteIs, List.getLast?_eq_some_getLast hbs, hbs]

/-- Settles O22. -/
theorem checkCommands : Obligations.CheckCommands :=
  ⟨fun _ bs h =>
    have hbytes := txbytes_of_txHolds h
    ⟨⟨_, onTxBytes_of_bytes hbytes _, lastByteIs_iff checksum bs⟩,
      ⟨_, onTxBytes_of_bytes hbytes _, lastByteIs_iff crc8 bs⟩⟩,
   fun _ h =>
    have hlong := txbytes_of_tooLong h
    ⟨onTxBytes_of_tooLong hlong _, onTxBytes_of_tooLong hlong _⟩⟩

/-! ### The sending commands read TXBUF before they do anything else -/

theorem l2Send_eq_onTxBytes {s : State} (h : s.proto ≠ some .vag) (c : Sender) :
    l2Send s c = s.onTxBytes (l2SendBytes s c) := if_neg h

/-- SEND reads TXBUF on a link that is pending, and on one that is up unless the protocol is VAG
(R183). -/
theorem exec_send_reads {s : State}
    (h : s.link = .fastPending ∨ (s.link = .up ∧ s.proto ≠ some .vag)) :
    ∃ k, exec .send s = thenRun (s.onTxBytes k) := by
  obtain hl | ⟨hl, hp⟩ := h
  · have hbegin : beginSend s = s.onTxBytes (fastAccum s) := by simp only [beginSend, hl]
    exact ⟨_, congrArg thenRun hbegin⟩
  · have hbegin : beginSend s = l2Send s .send := by simp only [beginSend, hl]
    exact ⟨_, congrArg thenRun (hbegin.trans (l2Send_eq_onTxBytes hp .send))⟩

/-- REQUEST has set RETRIES to 0 when it reads TXBUF (R215). -/
theorem exec_request_reads {s : State} (hl : s.link = .up) (hp : s.proto ≠ some .vag) :
    ∃ k, exec .request s = thenRun ((s.setRetries 0).onTxBytes k) := by
  have hbegin : beginRequest s = l2Send (s.setRetries 0) .request := if_neg (not_not.mpr hl)
  exact ⟨_, congrArg thenRun (hbegin.trans (l2Send_eq_onTxBytes (s := s.setRetries 0) hp .request))⟩

theorem exec_l3Send_reads {s : State} (ha : s.l3active = true) (hp : s.proto ≠ some .vag) :
    ∃ k, exec .l3Send s = thenRun (s.onTxBytes k) := by
  have hbegin : beginL3Send s = l2Send s .l3Send := if_pos ha
  exact ⟨_, congrArg thenRun (hbegin.trans (l2Send_eq_onTxBytes hp .l3Send))⟩

theorem thenRun_onTxBytes_of_unwritten {s : State} (h : s.txbytes = .unwritten)
    (k : List Byte → State) : thenRun (s.onTxBytes k) = .fault .unwrittenTxbuf := by
  rw [onTxBytes_of_unwritten h]
  rfl

theorem thenRun_onTxBytes_of_tooLong {s : State} (h : s.txbytes = .tooLong) (k : List Byte → State) :
    thenRun (s.onTxBytes k) = .next (ended s .badLength) := by
  rw [onTxBytes_of_tooLong h, thenRun_next, runCommand_complete]
  rfl

/-! ### Unwritten entries and the fault state -/

/-- Settles O23: the answers of reading TXBUF, for each command that gets as far, and the rules of a
stopped model's step. -/
theorem unwrittenEntryFaults : Obligations.UnwrittenEntryFaults := by
  refine ⟨fun s i hcap hi hread => ?_, fun s hlong => ?_, fun s f hf => ?_⟩
  · have htx := txbytes_of_unwritten hcap hi hread
    refine ⟨onTxBytes_of_unwritten htx _, onTxBytes_of_unwritten htx _, onTxBytes_of_unwritten htx _,
      onTxBytes_of_unwritten htx _, fun h => ?_, fun hl hp => ?_, fun ha hp => ?_⟩
    · obtain ⟨k, hk⟩ := exec_send_reads h
      exact hk.trans (thenRun_onTxBytes_of_unwritten htx k)
    · obtain ⟨k, hk⟩ := exec_request_reads hl hp
      exact hk.trans (thenRun_onTxBytes_of_unwritten (s := s.setRetries 0) htx k)
    · obtain ⟨k, hk⟩ := exec_l3Send_reads ha hp
      exact hk.trans (thenRun_onTxBytes_of_unwritten htx k)
  · have htx := txbytes_of_tooLong hlong
    refine ⟨fun h => ?_, fun hl hp => ?_, fun ha hp => ?_⟩
    · obtain ⟨k, hk⟩ := exec_send_reads h
      exact hk.trans (thenRun_onTxBytes_of_tooLong htx k)
    · obtain ⟨k, hk⟩ := exec_request_reads hl hp
      exact hk.trans (thenRun_onTxBytes_of_tooLong (s := s.setRetries 0) htx k)
    · obtain ⟨k, hk⟩ := exec_l3Send_reads ha hp
      exact hk.trans (thenRun_onTxBytes_of_tooLong htx k)
  · refine ⟨fun ev rest hev hin => ?_, step_ends hf⟩
    rw [step_stopped hf hin, whileStopped_eq hev]

end Sys2Proof.Machine
end

section

/-! ## One induction for a claim about all runs of a command -/

namespace Sys2Proof.Machine

/-- What the engine can do when it acts on the command `i`: wait, or go on from the answer or the sleep
that its sub-state waits for (R46, R182). -/
theorem act_cases {i : Instr} {s : State} (ho : s.estate.OwnedBy i) :
    act s = s ∨
    (∃ r k, s.estate = .answeredAck r k ∧ k.command = i ∧ act s = onAck s r k) ∨
    (∃ f init, s.estate = .answeredFlags f init ∧ Instr.start = i ∧ act s = onGetFlags s f init) ∨
    (∃ r time k, s.estate = .answeredRecv r time k ∧ k.command = i ∧ act s = onRecv s r time k) ∨
    ∃ t0 d k, s.estate = .sleeping t0 d k ∧ k.command = i ∧ act s = wake s k := by
  cases he : s.estate with
  | idle | decode | awaitAck | awaitFlags | awaitRecv => exact .inl (by simp only [act, he])
  | answeredAck r k =>
    exact .inr (.inl ⟨r, k, rfl, ho _ (congrArg EState.command he), by simp only [act, he]⟩)
  | answeredFlags f init =>
    exact .inr (.inr (.inl ⟨f, init, rfl, ho _ (congrArg EState.command he), by simp only [act, he]⟩))
  | answeredRecv r time k =>
    exact .inr (.inr (.inr (.inl
      ⟨r, time, k, rfl, ho _ (congrArg EState.command he), by simp only [act, he]⟩)))
  | sleeping t0 d k =>
    cases hs : slept s.now t0 d with
    | false => exact .inl (by simp [act, he, hs])
    | true =>
      exact .inr (.inr (.inr (.inr
        ⟨t0, d, k, rfl, ho _ (congrArg EState.command he), by simp [act, he, hs]⟩)))

/-- What a begun command meets, and the clock, an answer and the engine acting on that command keep, the
command leaves. `Q` must not look at the events to come. -/
theorem exec_induct {i : Instr} {s t : State} (Q : State → Prop)
    (hbegin : ∀ u, beginCommand s i = .next u → Q u)
    (hin : ∀ u evs, Q u → Q { u with inputs := evs }) (htick : ∀ u, Q u → Q u.tick)
    (hans : ∀ u a, Q u → Q (u.answer a)) (hact : ∀ u, u.estate.OwnedBy i → Q u → Q (act u))
    (h : exec i s = .next t) : Q t := by
  obtain ⟨u, hu, rfl⟩ := exec_next h
  have hrun := runOver_induct (fun v => Q v ∧ v.estate.OwnedBy i)
    (fun v evs ⟨hq, ho⟩ => ⟨hin v evs hq, ho⟩)
    (fun v ⟨hq, ho⟩ => ⟨htick v hq, ho⟩)
    (fun v a ⟨hq, ho⟩ => ⟨hans v a hq, (answer_frame (Frame.refl i v) ho a).2⟩)
    (fun v ⟨hq, ho⟩ => ⟨hact v ho hq, (act_stretch ho).owned⟩)
    u.inputs u ⟨hbegin u hu, (beginCommand_stretch hu).owned⟩
  exact hrun.1

end Sys2Proof.Machine
end

section

/-! ## The error codes of each command -/

namespace Sys2Proof.Machine

open Claims

/-- The codes that the commands that receive share (R292). -/
def receiveCodes : List ErrCode :=
  [.ok, .timeout, .badData, .badLength, .protocolNotSupported, .busError, .ioError]

/-- The codes of a send that fails on a link that is UP (R292). -/
def sendCodes : List ErrCode := [.badLength, .protocolNotSupported, .busError, .ioError]

/-- What the command `i` has reported at its end, or what the answer that it waits for or acts on can
make it report, is one of its codes; `err` is STATUS.ERR. -/
def EState.Reports (i : Instr) (err : ErrCode) : EState → Prop
  | .idle => err ∈ mayReport i
  | .awaitAck op _ => ∀ e, op.mayFail e = true → e.toCode ∈ mayReport i
  | .answeredAck r _ => ∀ e, r = some e → e.toCode ∈ mayReport i
  | .awaitRecv _ _ _ => ∀ e : L0Err, e.toCode ∈ mayReport i
  | .answeredRecv r _ _ => ∀ e, r = .err e → e.toCode ∈ mayReport i
  | .decode _ => True
  | .awaitFlags _ => True
  | .answeredFlags _ _ => True
  | .sleeping _ _ _ => True

/-- The command `i`, where it stands in `t`, reports only its own codes. -/
def ReportsOwn (i : Instr) (t : State) : Prop := t.estate.Reports i t.err

/-! ### Where a stretch of the engine ends -/

section Ends

variable {i : Instr}

theorem ReportsOwn.complete {e : ErrCode} (he : e ∈ mayReport i) (t : State) :
    ReportsOwn i (t.complete e) := he

theorem ReportsOwn.issueAck {op : AckOp} (h : ∀ e, op.mayFail e = true → e.toCode ∈ mayReport i)
    (t : State) (k : AckKont) : ReportsOwn i (t.issueAck op k) := h

theorem ReportsOwn.issueRecv (h : ∀ e : L0Err, e.toCode ∈ mayReport i) (t : State) (m n : Nat)
    (k : RecvKont) : ReportsOwn i (t.issueRecv m n k) := h

theorem ReportsOwn.failDown {e : ErrCode} (he : e ∈ mayReport i) (t : State) :
    ReportsOwn i (failDown t e) := he

end Ends

/-! ### The codes of the commands that share a machine -/

theorem toCode_mem_receiveCodes (e : L0Err) : e.toCode ∈ receiveCodes := by
  cases e <;> decide

theorem toCode_mem_start (e : L0Err) : e.toCode ∈ mayReport .start := by
  cases e <;> decide

theorem toCode_mem_send (e : L0Err) : e.toCode ∈ mayReport .send := by
  cases e <;> decide

/-- `L0.send` never answers Timeout (R59). -/
theorem toCode_mem_sendCodes {bs : List Byte} {e : L0Err} (h : (AckOp.send bs).mayFail e = true) :
    e.toCode ∈ sendCodes := by
  cases e with
  | timeout => cases h
  | busError | ioError => decide

theorem Receiver.mem_mayReport (c : Receiver) {e : ErrCode} (he : e ∈ receiveCodes) :
    e ∈ mayReport c.command := by
  have h : ∀ e ∈ receiveCodes, e ∈ mayReport c.command := by cases c <;> decide
  exact h e he

theorem ByteCaller.mem_mayReport (c : ByteCaller) {e : ErrCode} (he : e ∈ receiveCodes) :
    e ∈ mayReport c.command := by
  have h : ∀ e ∈ receiveCodes, e ∈ mayReport c.command := by cases c <;> decide
  exact h e he

theorem Sender.mem_mayReport (c : Sender) {e : ErrCode} (he : e ∈ sendCodes) :
    e ∈ mayReport c.command := by
  have h : ∀ e ∈ sendCodes, e ∈ mayReport c.command := by cases c <;> decide
  exact h e he

/-- A framer refuses with BadLength, or with ProtocolNotSupported where there is none (R185 to R188). -/
theorem frameFor_error_mem {s : State} {bs : List Byte} {e : ErrCode}
    (h : frameFor s bs = .error e) : e ∈ sendCodes := by
  unfold frameFor at h
  split at h
  · unfold frame9141 at h
    split at h <;> cases h
    decide
  · unfold frame1850 at h
    split at h <;> cases h
    decide
  · unfold frameRaw at h
    split at h <;> cases h
    decide
  · unfold frameRaw at h
    split at h <;> cases h
    decide
  · cases h
    decide
  · cases h
    decide

/-! ### The receivers -/

section Receivers

variable (t : State) (c : Receiver)

theorem receive_fails {e : ErrCode} (he : e ∈ receiveCodes) : ReportsOwn c.command (t.complete e) :=
  .complete (c.mem_mayReport he) t

theorem receive_reads (m n : Nat) (k : RecvKont) : ReportsOwn c.command (t.issueRecv m n k) :=
  .issueRecv (fun e => c.mem_mayReport (toCode_mem_receiveCodes e)) t m n k

/-- NoMemory comes from the commands that append; the keepalive drops what it receives (R217, R260). -/
theorem deliver_reports (msgs : List Message) : ReportsOwn c.command (deliver t c msgs) := by
  cases c with
  | recv | request | l3Framed =>
    simp only [deliver]
    split <;> exact .complete (by decide) _
  | keepalive => exact .complete (by decide) _

theorem deliverDecoded_reports (o : Option (List Message)) :
    ReportsOwn c.command (deliverDecoded t c o) := by
  cases o with
  | some msgs => exact deliver_reports t c msgs
  | none => exact receive_fails t c (by decide)

theorem enterAccum_reports (frames : List RxFrame) (cur : List Byte) (ts : Word) :
    ReportsOwn c.command (enterAccum t c frames cur ts) := by
  unfold enterAccum
  split
  · exact receive_fails t c (by decide)
  · exact receive_reads t c _ _ _

theorem onRxWaitFirst_reports (time : Word) (r : RecvResult) :
    ReportsOwn c.command (onRxWaitFirst t c time r) := by
  cases r with
  | data d => exact enterAccum_reports t c _ _ _
  | err e => exact receive_fails t c (toCode_mem_receiveCodes e)

theorem onRxAccum_reports (frames : List RxFrame) (cur : List Byte) (ts : Word) (r : RecvResult) :
    ReportsOwn c.command (onRxAccum t c frames cur ts r) := by
  rcases r with d | e
  · exact enterAccum_reports t c _ _ _
  · cases e with
    | timeout => exact receive_reads t c _ _ _
    | busError | ioError => exact receive_fails t c (by decide)

theorem onRxWaitMore_reports (frames : List RxFrame) (time : Word) (r : RecvResult) :
    ReportsOwn c.command (onRxWaitMore t c frames time r) := by
  rcases r with d | e
  · exact enterAccum_reports t c _ _ _
  · cases e with
    | timeout => exact deliverDecoded_reports t c _
    | busError | ioError => exact receive_fails t c (by decide)

theorem onRxRaw_reports (time : Word) (r : RecvResult) :
    ReportsOwn c.command (onRxRaw t c time r) := by
  cases r with
  | data d => exact deliver_reports t c _
  | err e => exact receive_fails t c (toCode_mem_receiveCodes e)

theorem busRetry_reports (n : Nat) : ReportsOwn c.command (busRetry t c n) := by
  have gaveUp : ReportsOwn c.command ((t.setRetries n).complete .busError) :=
    receive_fails _ c (by decide)
  unfold busRetry
  split
  · exact gaveUp
  · split
    · exact gaveUp
    · exact .issueAck (fun e _ => c.mem_mayReport (toCode_mem_receiveCodes e)) t _

theorem onRx1850_reports (frames : List RxFrame) (n : Nat) (time : Word) (r : RecvResult) :
    ReportsOwn c.command (onRx1850 t c frames n time r) := by
  rcases r with d | e
  · exact receive_reads t c _ _ _
  · cases e with
    | timeout =>
      simp only [onRx1850]
      split
      · exact receive_fails _ c (by decide)
      · exact deliverDecoded_reports _ c _
    | busError => exact busRetry_reports t c n
    | ioError => exact receive_fails _ c (by decide)

theorem onRx1850Resend_reports (n : Nat) (r : Option L0Err) :
    ReportsOwn c.command (onRx1850Resend t c n r) := by
  cases r with
  | none => exact receive_reads t c _ _ _
  | some e => exact receive_fails _ c (toCode_mem_receiveCodes e)

theorem beginReceive_reports : ReportsOwn c.command (beginReceive t c) := by
  have unsupported : ReportsOwn c.command (t.complete .protocolNotSupported) :=
    receive_fails t c (by decide)
  unfold beginReceive
  split
  · exact receive_reads t c _ _ _
  · split
    · exact receive_reads t c _ _ _
    · exact unsupported
  · exact receive_reads t c _ _ _
  · exact receive_reads t c _ _ _
  · exact unsupported
  · exact unsupported

end Receivers

/-! ### The byte path -/

theorem byteFinish_reports (t : State) (p : ByteRun) {e : ErrCode} (he : e ∈ receiveCodes) :
    ReportsOwn p.caller.command (byteFinish t p e) := by
  unfold byteFinish
  split <;> exact .complete (p.caller.mem_mayReport he) _

theorem l3Read_reports (t : State) (c : ByteCaller) (n : Nat) (k : RecvKont)
    {onErr : ErrCode → State} (he : ∀ e ∈ receiveCodes, ReportsOwn c.command (onErr e)) :
    ReportsOwn c.command (l3Read t n k onErr) := by
  obtain ⟨-, heq⟩ | ⟨-, heq⟩ | ⟨-, heq⟩ := l3Read_cases t n k onErr
  · exact heq ▸ he _ (by decide)
  · exact heq ▸ he _ (by decide)
  · exact heq ▸ .issueRecv (fun e => c.mem_mayReport (toCode_mem_receiveCodes e)) t _ _ _

section BytePath

variable (t : State) (p : ByteRun)

theorem drainError_reports {e : ErrCode} (he : e ∈ receiveCodes) :
    ReportsOwn p.caller.command (drainError t p e) := by
  unfold drainError
  split
  · exact byteFinish_reports t p (by decide)
  · exact byteFinish_reports t p he

theorem enterDrain_reports : ReportsOwn p.caller.command (enterDrain t p) :=
  l3Read_reports t p.caller _ _ fun _ => drainError_reports t p

theorem enterNormal_reports : ReportsOwn p.caller.command (enterNormal t p) :=
  l3Read_reports t p.caller _ _ fun _ => byteFinish_reports t p

theorem probeStep_reports : ReportsOwn p.caller.command (probeStep t p) := by
  rw [probeStep_eq]
  split
  · exact byteFinish_reports _ (byteStep t p).2.1 (by decide)
  · split
    · exact byteFinish_reports _ (byteStep t p).2.1 (by decide)
    · exact enterNormal_reports _ (byteStep t p).2.1

theorem probeError_reports {e : ErrCode} (he : e ∈ receiveCodes) :
    ReportsOwn p.caller.command (probeError t p e) := by
  unfold probeError
  split
  · exact probeStep_reports t p
  · exact byteFinish_reports t p he

theorem enterProbe_reports : ReportsOwn p.caller.command (enterProbe t p) :=
  l3Read_reports t p.caller _ _ fun _ => probeError_reports t p

theorem onL3Probe_reports (r : RecvResult) : ReportsOwn p.caller.command (onL3Probe t p r) := by
  cases r with
  | data d => exact probeStep_reports _ p
  | err e => exact probeError_reports t p (toCode_mem_receiveCodes e)

theorem onL3Normal_reports (r : RecvResult) : ReportsOwn p.caller.command (onL3Normal t p r) := by
  cases r with
  | data d =>
    rw [onL3Normal_data]
    split
    · exact byteFinish_reports _ (byteStep (t.takeBytes d) p).2.1 (by decide)
    · split
      · exact byteFinish_reports _ (byteStep (t.takeBytes d) p).2.1 (by decide)
      · exact enterDrain_reports _ (byteStep (t.takeBytes d) p).2.1
  | err e => exact byteFinish_reports t p (toCode_mem_receiveCodes e)

theorem onL3Drain_reports (r : RecvResult) : ReportsOwn p.caller.command (onL3Drain t p r) := by
  cases r with
  | data d =>
    rw [onL3Drain_data]
    split
    · exact byteFinish_reports _ (byteStep (t.takeBytes d) p).2.1 (by decide)
    · exact enterDrain_reports _ (byteStep (t.takeBytes d) p).2.1
  | err e => exact drainError_reports t p (toCode_mem_receiveCodes e)

end BytePath

/-! ### The senders -/

section Senders

variable (t : State) (c : Sender)

theorem send_fails {e : ErrCode} (he : e ∈ sendCodes) : ReportsOwn c.command (t.complete e) :=
  .complete (c.mem_mayReport he) t

theorem send_issues (bs : List Byte) (k : AckKont) :
    ReportsOwn c.command (t.issueAck (.send bs) k) :=
  .issueAck (fun _ he => c.mem_mayReport (toCode_mem_sendCodes he)) t k

theorem keepaliveReceive_reports : ReportsOwn .l3Keepalive (keepaliveReceive t) := by
  unfold keepaliveReceive
  split
  · exact beginReceive_reports _ .keepalive
  · exact enterProbe_reports t _

theorem afterEmit_reports (frame : List Byte) : ReportsOwn c.command (afterEmit t c frame) := by
  cases c with
  | send | l3Send => exact .complete (by decide) _
  | request => exact beginReceive_reports _ .request
  | keepalive => exact keepaliveReceive_reports _

theorem l2SendBytes_reports (bs : List Byte) : ReportsOwn c.command (l2SendBytes t c bs) := by
  obtain ⟨e, he, heq⟩ | ⟨f, -, -, heq⟩ | ⟨f, -, -, heq⟩ := l2SendBytes_cases t c bs
  · exact heq ▸ send_fails t c (frameFor_error_mem he)
  · exact heq ▸ send_fails t c (by decide)
  · rw [heq, emit]
    split <;> exact send_issues t c _ _

theorem onEmitFrame_reports (frame : List Byte) {r : Option L0Err}
    (hr : ∀ e, r = some e → e.toCode ∈ mayReport c.command) :
    ReportsOwn c.command (onEmitFrame t c frame r) := by
  cases r with
  | none => exact afterEmit_reports t c frame
  | some e => exact .complete (hr e rfl) t

theorem onEmitByte_reports (frame rest : List Byte) {r : Option L0Err}
    (hr : ∀ e, r = some e → e.toCode ∈ mayReport c.command) :
    ReportsOwn c.command (onEmitByte t c frame rest r) := by
  cases r with
  | none =>
    simp only [onEmitByte]
    split
    · exact afterEmit_reports t c frame
    · unfold sleepThen
      split
      · exact send_issues t c _ _
      · trivial
  | some e => exact .complete (hr e rfl) t

end Senders

/-! ### START and the fast-init transaction -/

section Start

variable (t : State)

theorem start_fails (e : L0Err) : ReportsOwn .start (failDown t e.toCode) :=
  .failDown (toCode_mem_start e) t

theorem start_issues (op : AckOp) (k : AckKont) : ReportsOwn .start (t.issueAck op k) :=
  .issueAck (fun e _ => toCode_mem_start e) t k

theorem start_reads (m n : Nat) (k : RecvKont) : ReportsOwn .start (t.issueRecv m n k) :=
  .issueRecv toCode_mem_start t m n k

theorem start_linkUp : ReportsOwn .start (linkUp t) := .complete (by decide) _

/-- What follows a sleep of START: an operation, or its end with OK (R147, R153, R160). -/
theorem start_wake {k : SleepKont} (hk : k.command = .start) : ReportsOwn .start (wake t k) := by
  cases k with
  | s5Idle | s5W4 => exact start_issues t _ _
  | fIdle => exact .complete (by decide) _
  | emitGap c => cases c <;> cases hk

theorem start_sleepThen {k : SleepKont} (hk : k.command = .start) (d : Nat) :
    ReportsOwn .start (sleepThen t d k) := by
  unfold sleepThen
  split
  · exact start_wake t hk
  · trivial

theorem onSetSpeed_reports (init : InitKind) (r : Option L0Err) :
    ReportsOwn .start (onSetSpeed t init r) := by
  cases r with
  | none => trivial
  | some e => exact start_fails t e

theorem onGetFlags_reports (f : BitVec 9) (init : InitKind) :
    ReportsOwn .start (onGetFlags t f init) := by
  cases init with
  | noInit => exact start_linkUp _
  | fiveBaud v =>
    simp only [onGetFlags]
    split
    · exact start_issues _ _ _
    · exact .failDown (by decide) _
  | fast =>
    simp only [onGetFlags]
    split
    · exact start_sleepThen _ rfl _
    · exact .failDown (by decide) _

theorem onS5Flush_reports (v : KeyVariant) (r : Option L0Err) :
    ReportsOwn .start (onS5Flush t v r) := by
  cases r with
  | none => exact start_sleepThen t rfl _
  | some e => exact start_fails t e

theorem onS5Init_reports (v : KeyVariant) (r : Option L0Err) :
    ReportsOwn .start (onS5Init t v r) := by
  cases r with
  | none => exact start_reads t _ _ _
  | some e => exact start_fails t e

theorem onS5Kb1_reports (v : KeyVariant) (r : RecvResult) : ReportsOwn .start (onS5Kb1 t v r) := by
  cases r with
  | data d => exact start_reads _ _ _ _
  | err e => exact start_fails t e

theorem onS5Kb2_reports (v : KeyVariant) (r : RecvResult) : ReportsOwn .start (onS5Kb2 t v r) := by
  cases r with
  | data d =>
    simp only [onS5Kb2, s5Check]
    split
    · split
      · exact start_linkUp _
      · exact start_sleepThen _ rfl _
    · exact .failDown (by decide) _
  | err e => exact start_fails t e

theorem onS5TxInv_reports (v : KeyVariant) (r : Option L0Err) :
    ReportsOwn .start (onS5TxInv t v r) := by
  cases r with
  | none => exact start_reads t _ _ _
  | some e => exact start_fails t e

theorem onS5RxInv_reports (r : RecvResult) : ReportsOwn .start (onS5RxInv t r) := by
  cases r with
  | data d =>
    simp only [onS5RxInv]
    split
    · exact start_linkUp t
    · exact .failDown (by decide) t
  | err e => exact start_fails t e

theorem beginStart_reports : ReportsOwn .start (beginStart t) := by
  unfold beginStart
  split
  · exact .complete (by decide) t
  · split
    · exact start_issues _ _ _
    · exact .complete (by decide) t

/-- Timeout is the one code that SEND has from the fast-init transaction alone (R163). -/
theorem onFInit_reports (bs : List Byte) (r : Option L0Err) : ReportsOwn .send (onFInit t bs r) := by
  cases r with
  | none => exact .complete (by decide) _
  | some e => exact .failDown (toCode_mem_send e) t

theorem fastAccum_reports (bs : List Byte) : ReportsOwn .send (fastAccum t bs) := by
  unfold fastAccum
  split
  · exact .complete (by decide) t
  · split
    · exact .complete (by decide) t
    · split
      · exact .complete (by decide) _
      · exact .issueAck (fun e _ => toCode_mem_send e) _ _

end Start

/-! ### A command begins -/

theorem onTxBytes_reports {i : Instr} {s u : State} {k : List Byte → State}
    (hi : .badLength ∈ mayReport i) (hk : ∀ bs, ReportsOwn i (k bs))
    (hu : s.onTxBytes k = .next u) : ReportsOwn i u := by
  obtain rfl | ⟨bs, -, rfl⟩ := onTxBytes_next hu
  · exact .complete hi s
  · exact hk bs

theorem l2Send_reports {s u : State} (c : Sender) (hu : l2Send s c = .next u) :
    ReportsOwn c.command u := by
  unfold l2Send at hu
  split at hu
  · cases hu
    exact send_fails s c (by decide)
  · exact onTxBytes_reports (c.mem_mayReport (by decide)) (l2SendBytes_reports s c) hu

theorem beginSend_reports {s u : State} (hu : beginSend s = .next u) : ReportsOwn .send u := by
  unfold beginSend at hu
  split at hu
  · cases hu
    exact .complete (by decide) s
  · exact onTxBytes_reports (by decide) (fastAccum_reports s) hu
  · exact l2Send_reports .send hu

theorem beginRequest_reports {s u : State} (hu : beginRequest s = .next u) :
    ReportsOwn .request u := by
  unfold beginRequest at hu
  split at hu
  · cases hu
    exact .complete (by decide) s
  · exact l2Send_reports .request hu

theorem beginRecv_reports (s : State) : ReportsOwn .recv (beginRecv s) := by
  unfold beginRecv
  split
  · exact .complete (by decide) s
  · exact beginReceive_reports _ .recv

theorem beginL3Send_reports {s u : State} (hu : beginL3Send s = .next u) : ReportsOwn .l3Send u := by
  unfold beginL3Send at hu
  split at hu
  · exact l2Send_reports .l3Send hu
  · cases hu
    exact .complete (by decide) s

theorem beginL3Recv_reports (s : State) : ReportsOwn .l3Recv (beginL3Recv s) := by
  unfold beginL3Recv
  split
  · split
    · exact .complete (by decide) s
    · dsimp only
      split
      · exact beginReceive_reports _ .l3Framed
      · exact enterProbe_reports _ _
  · exact .complete (by decide) s

theorem beginL3Keepalive_reports (s : State) : ReportsOwn .l3Keepalive (beginL3Keepalive s) := by
  unfold beginL3Keepalive
  split
  · split
    · exact .complete (by decide) s
    · split
      · exact .complete (by decide) s
      · exact l2SendBytes_reports s .keepalive _
  · exact .complete (by decide) s

theorem beginCommand_reports {i : Instr} {s u : State} (hu : beginCommand s i = .next u) :
    ReportsOwn i u := by
  cases i with
  | nop | cksInit | crcInit | msgPop => cases hu; exact .complete (by decide) _
  | cksAdd | crcAdd => cases hu; exact .complete (List.mem_singleton_self _) _
  | cksBuf | cksCheck | crcBuf | crcCheck =>
    exact onTxBytes_reports (by decide) (fun _ => .complete (by decide) _) hu
  | start => cases hu; exact beginStart_reports s
  | stop =>
    simp only [beginCommand, execStop] at hu
    split at hu <;> cases hu <;> exact .complete (by decide) _
  | l3Start =>
    simp only [beginCommand, execL3Start] at hu
    split at hu <;> cases hu <;> exact .complete (by decide) _
  | l3Stop =>
    simp only [beginCommand, execL3Stop] at hu
    split at hu <;> cases hu <;> exact .complete (by decide) _
  | send => exact beginSend_reports hu
  | recv => cases hu; exact beginRecv_reports s
  | request => exact beginRequest_reports hu
  | l3Send => exact beginL3Send_reports hu
  | l3Recv => cases hu; exact beginL3Recv_reports s
  | l3Keepalive => cases hu; exact beginL3Keepalive_reports s

/-! ### A command runs -/

theorem onAck_reports (t : State) {r : Option L0Err} {k : AckKont}
    (hr : ∀ e, r = some e → e.toCode ∈ mayReport k.command) :
    ReportsOwn k.command (onAck t r k) := by
  cases k with
  | startSetSpeed init => exact onSetSpeed_reports t init r
  | s5Flush v => exact onS5Flush_reports t v r
  | s5Init v => exact onS5Init_reports t v r
  | s5TxInv v => exact onS5TxInv_reports t v r
  | fInit bytes => exact onFInit_reports t bytes r
  | emitFrame c frame => exact onEmitFrame_reports t c frame hr
  | emitByte c frame rest => exact onEmitByte_reports t c frame rest hr
  | rx1850Resend c n => exact onRx1850Resend_reports t c n r

theorem onRecv_reports (t : State) (r : RecvResult) (time : Word) (k : RecvKont) :
    ReportsOwn k.command (onRecv t r time k) := by
  cases k with
  | s5Kb1 v => exact onS5Kb1_reports t v r
  | s5Kb2 v => exact onS5Kb2_reports t v r
  | s5RxInv v => exact onS5RxInv_reports t r
  | rxWaitFirst c => exact onRxWaitFirst_reports t c time r
  | rxAccum c frames cur ts => exact onRxAccum_reports t c frames cur ts r
  | rxWaitMore c frames => exact onRxWaitMore_reports t c frames time r
  | rxRaw c => exact onRxRaw_reports t c time r
  | rx1850 c frames n => exact onRx1850_reports t c frames n time r
  | l3Probe p => exact onL3Probe_reports t p r
  | l3Normal p => exact onL3Normal_reports t p r
  | l3Drain p => exact onL3Drain_reports t p r

theorem wake_reports (t : State) (k : SleepKont) : ReportsOwn k.command (wake t k) := by
  cases k with
  | s5Idle | s5W4 | fIdle => exact start_wake t rfl
  | emitGap c frame rest => exact send_issues t c _ _

theorem act_reports {i : Instr} {t : State} (ho : t.estate.OwnedBy i) (h : ReportsOwn i t) :
    ReportsOwn i (act t) := by
  obtain heq | ⟨r, k, he, rfl, heq⟩ | ⟨f, init, -, rfl, heq⟩ | ⟨r, time, k, -, rfl, heq⟩ |
    ⟨t0, d, k, -, rfl, heq⟩ := act_cases ho
  · rwa [heq]
  · rw [ReportsOwn, he] at h
    exact heq ▸ onAck_reports t h
  · exact heq ▸ onGetFlags_reports t f init
  · exact heq ▸ onRecv_reports t r time k
  · exact heq ▸ wake_reports t k

/-- An answer is one that the operation in flight may give (R59, R61). -/
theorem answer_reports {i : Instr} {t : State} (h : ReportsOwn i t) (a : L0Answer) :
    ReportsOwn i (t.answer a) := by
  obtain heq | ⟨op, k, he, ⟨-, heq⟩ | ⟨e, -, hfail, heq⟩⟩ | ⟨init, f, -, -, heq⟩ |
    ⟨m, n, k, he, ⟨d, -, -, -, heq⟩ | ⟨e, -, heq⟩⟩ := answer_cases t a
  · rwa [heq]
  · rw [heq]
    exact fun e he => nomatch he
  · rw [ReportsOwn, he] at h
    rw [heq]
    exact fun e' he' => Option.some.inj he' ▸ h e hfail
  · rw [heq]
    trivial
  · rw [heq]
    exact fun e he => nomatch he
  · rw [ReportsOwn, he] at h
    rw [heq]
    exact fun e' _ => h e'

/-- Settles O59: a command begins with codes of its own, and its run keeps to the errors that the
operations it issues may answer. -/
theorem errorsPerCommand : Obligations.ErrorsPerCommand := by
  intro i s t ht hidle
  have h : ReportsOwn i t :=
    exec_induct (ReportsOwn i) (fun _ => beginCommand_reports) (fun _ _ h => h) (fun _ h => h)
      (fun _ a h => answer_reports h a) (fun _ => act_reports) ht
  rwa [ReportsOwn, hidle] at h

end Sys2Proof.Machine
end

section

/-! ## STOP -/

namespace Sys2Proof.Machine

/-- Settles O26. -/
theorem stopReleasesTheLink : Obligations.StopReleasesTheLink :=
  fun _ => ⟨fun h => if_neg (by simp [h]), fun h => if_pos h⟩

end Sys2Proof.Machine
end

section

/-! ## What a command keeps unless it ends with OK -/

namespace Sys2Proof.Machine

open Claims

/-- The command has ended with OK. -/
def EndedOk (t : State) : Prop := t.estate = .idle ∧ t.err = .ok

/-- What a command keeps in every stretch that does not end it with OK, it keeps unless it ends with OK.
`P` must not look at the events to come, the clock, the engine state or the record of the wire. -/
theorem exec_keeps_unless_ok {i : Instr} {s t : State} (P : State → Prop)
    (hbegin : ∀ u, beginCommand s i = .next u → P u ∨ EndedOk u)
    (hin : ∀ u evs, P u → P { u with inputs := evs }) (htick : ∀ u, P u → P u.tick)
    (hsettle : ∀ u op a e, P u → P (u.settle op a e))
    (hact : ∀ u, u.estate.OwnedBy i → P u → P (act u) ∨ EndedOk (act u))
    (h : exec i s = .next t) : P t ∨ EndedOk t := by
  refine exec_induct (fun u => P u ∨ EndedOk u) hbegin (fun u evs hu => hu.imp_left (hin u evs))
    (fun u hu => hu.imp_left (htick u)) (fun u a hu => ?_) (fun u ho hu => ?_) h
  · obtain heq | ⟨op, k, he, ⟨-, heq⟩ | ⟨e, -, -, heq⟩⟩ | ⟨init, f, he, -, heq⟩ |
      ⟨m, n, k, he, ⟨d, -, -, -, heq⟩ | ⟨e, -, heq⟩⟩ := answer_cases u a
    · rwa [heq]
    all_goals
      have hP : P u := hu.resolve_right fun hok => nomatch he.symm.trans hok.1
      exact heq ▸ .inl (hsettle _ _ _ _ hP)
  · obtain hu | hok := hu
    · exact hact u ho hu
    · have hself : act u = u := by simp only [act, hok.1]
      exact hself.symm ▸ .inr hok

/-! ### Which sub-states START and SEND run -/

theorem Sender.not_start (c : Sender) : c.command ≠ .start := by
  cases c <;> decide

theorem Sender.eq_send {c : Sender} (hc : c.command = .send) : c = .send := by
  cases c <;> simp [Sender.command] at hc ⊢

/-- Neither START nor SEND runs `l2_receive`. -/
theorem Receiver.not_start_send (c : Receiver) : c.command ≠ .start ∧ c.command ≠ .send := by
  cases c <;> decide

/-- Neither START nor SEND runs the byte path. -/
theorem ByteCaller.not_start_send (c : ByteCaller) : c.command ≠ .start ∧ c.command ≠ .send := by
  cases c <;> decide

/-! ### START and the link -/

section Start

variable {t : State} (h : t.link = .down)
include h

theorem loadConnection_link_down (f : BitVec 9) : (loadConnection t f).link = .down := by
  unfold loadConnection
  split <;> exact h

theorem refineP2_link_down : (refineP2 t).link = .down := by
  unfold refineP2
  split
  · exact h
  · split <;> exact h

/-- A START that goes on after a sleep issues an operation, or ends with OK. -/
theorem start_wake_down {k : SleepKont} (hk : k.command = .start) :
    (wake t k).link = .down ∨ EndedOk (wake t k) := by
  cases k with
  | s5Idle | s5W4 => exact .inl h
  | fIdle => exact .inr ⟨rfl, rfl⟩
  | emitGap c => exact absurd hk c.not_start

theorem start_sleepThen_down {k : SleepKont} (hk : k.command = .start) (d : Nat) :
    (sleepThen t d k).link = .down ∨ EndedOk (sleepThen t d k) := by
  unfold sleepThen
  split
  · exact start_wake_down h hk
  · exact .inl h

theorem onGetFlags_down (f : BitVec 9) (init : InitKind) :
    (onGetFlags t f init).link = .down ∨ EndedOk (onGetFlags t f init) := by
  cases init with
  | noInit => exact .inr ⟨rfl, rfl⟩
  | fiveBaud v =>
    simp only [onGetFlags]
    split
    · exact .inl (loadConnection_link_down h f)
    · exact .inl rfl
  | fast =>
    simp only [onGetFlags]
    split
    · exact start_sleepThen_down (loadConnection_link_down h f) rfl _
    · exact .inl rfl

theorem s5Check_down (v : KeyVariant) : (s5Check t v).link = .down ∨ EndedOk (s5Check t v) := by
  unfold s5Check
  split
  · dsimp only
    split
    · exact .inr ⟨rfl, rfl⟩
    · exact start_sleepThen_down (refineP2_link_down h) rfl _
  · exact .inl rfl

theorem start_onAck_down {k : AckKont} (hk : k.command = .start) (r : Option L0Err) :
    (onAck t r k).link = .down ∨ EndedOk (onAck t r k) := by
  cases k with
  | startSetSpeed | s5Init | s5TxInv =>
    cases r with
    | none => exact .inl h
    | some e => exact .inl rfl
  | s5Flush v =>
    cases r with
    | none => exact start_sleepThen_down h rfl _
    | some e => exact .inl rfl
  | fInit => cases hk
  | emitFrame c | emitByte c => exact absurd hk c.not_start
  | rx1850Resend c => exact absurd hk c.not_start_send.1

theorem start_onRecv_down {k : RecvKont} (hk : k.command = .start) (r : RecvResult) (time : Word) :
    (onRecv t r time k).link = .down ∨ EndedOk (onRecv t r time k) := by
  cases k with
  | s5Kb1 v =>
    cases r with
    | data d => exact .inl h
    | err e => exact .inl rfl
  | s5Kb2 v =>
    cases r with
    | data d => exact s5Check_down (t := { t with keybytes := d.getD 0 0 ++ t.kb1 }) h v
    | err e => exact .inl rfl
  | s5RxInv v =>
    cases r with
    | data d =>
      simp only [onRecv, onS5RxInv]
      split
      · exact .inr ⟨rfl, rfl⟩
      · exact .inl rfl
    | err e => exact .inl rfl
  | rxWaitFirst c | rxAccum c | rxWaitMore c | rxRaw c | rx1850 c =>
    exact absurd hk c.not_start_send.1
  | l3Probe p | l3Normal p | l3Drain p => exact absurd hk p.caller.not_start_send.1

theorem start_act_down (ho : t.estate.OwnedBy .start) :
    (act t).link = .down ∨ EndedOk (act t) := by
  obtain heq | ⟨r, k, -, hk, heq⟩ | ⟨f, init, -, -, heq⟩ | ⟨r, time, k, -, hk, heq⟩ |
    ⟨t0, d, k, -, hk, heq⟩ := act_cases ho
  · exact heq.symm ▸ .inl h
  · exact heq ▸ start_onAck_down h hk r
  · exact heq ▸ onGetFlags_down h f init
  · exact heq ▸ start_onRecv_down h hk r time
  · exact heq ▸ start_wake_down h hk

theorem beginStart_down : (beginStart t).link = .down := by
  unfold beginStart
  split
  · exact h
  · split <;> exact h

end Start

/-! ### SEND and LASTTX -/

section Send

variable {t : State} {l : Option (List Byte)} (h : t.lasttx = l)
include h

theorem send_l2SendBytes_lasttx (bs : List Byte) : (l2SendBytes t .send bs).lasttx = l := by
  obtain ⟨e, -, heq⟩ | ⟨f, -, -, heq⟩ | ⟨f, -, -, heq⟩ := l2SendBytes_cases t .send bs
  · exact heq ▸ h
  · exact heq ▸ h
  · rw [heq, emit]
    split <;> exact h

theorem fastAccum_lasttx (bs : List Byte) : (fastAccum t bs).lasttx = l := by
  unfold fastAccum
  split
  · exact h
  · split
    · exact h
    · split <;> exact h

theorem beginSend_lasttx {u : State} (hu : beginSend t = .next u) : u.lasttx = l := by
  unfold beginSend at hu
  split at hu
  · cases hu
    exact h
  · obtain rfl | ⟨bs, -, rfl⟩ := onTxBytes_next hu
    · exact h
    · exact fastAccum_lasttx h bs
  · unfold l2Send at hu
    split at hu
    · cases hu
      exact h
    · obtain rfl | ⟨bs, -, rfl⟩ := onTxBytes_next hu
      · exact h
      · exact send_l2SendBytes_lasttx h bs

/-- LASTTX takes a frame in the stretch that ends the SEND with OK, and in no other (R163, R189). -/
theorem send_onAck_lasttx {k : AckKont} (hk : k.command = .send) (r : Option L0Err) :
    (onAck t r k).lasttx = l ∨ EndedOk (onAck t r k) := by
  cases k with
  | startSetSpeed | s5Flush | s5Init | s5TxInv => cases hk
  | fInit bytes =>
    cases r with
    | none => exact .inr ⟨rfl, rfl⟩
    | some e => exact .inl h
  | emitFrame c frame =>
    obtain rfl := Sender.eq_send hk
    cases r with
    | none => exact .inr ⟨rfl, rfl⟩
    | some e => exact .inl h
  | emitByte c frame rest =>
    obtain rfl := Sender.eq_send hk
    cases r with
    | none =>
      simp only [onAck, onEmitByte, sleepThen]
      split
      · exact .inr ⟨rfl, rfl⟩
      · split <;> exact .inl h
    | some e => exact .inl h
  | rx1850Resend c => exact absurd hk c.not_start_send.2

theorem send_act_lasttx (ho : t.estate.OwnedBy .send) : (act t).lasttx = l ∨ EndedOk (act t) := by
  obtain heq | ⟨r, k, -, hk, heq⟩ | ⟨f, init, -, hk, heq⟩ | ⟨r, time, k, -, hk, heq⟩ |
    ⟨t0, d, k, -, hk, heq⟩ := act_cases ho
  · exact heq.symm ▸ .inl h
  · exact heq ▸ send_onAck_lasttx h hk r
  · cases hk
  · cases k with
    | s5Kb1 | s5Kb2 | s5RxInv => cases hk
    | rxWaitFirst c | rxAccum c | rxWaitMore c | rxRaw c | rx1850 c =>
      exact absurd hk c.not_start_send.2
    | l3Probe p | l3Normal p | l3Drain p => exact absurd hk p.caller.not_start_send.2
  · cases k with
    | s5Idle | s5W4 | fIdle => cases hk
    | emitGap c frame rest => exact heq ▸ .inl h

end Send

/-- Settles O32: in each stretch a START keeps the link DOWN, and a SEND LASTTX, unless it ends with
OK. -/
theorem failedStartAndSend : Obligations.FailedStartAndSend := by
  constructor
  · intro s t hl ht _ herr
    have h := exec_keeps_unless_ok (fun u => u.link = .down)
      (fun u hu => by cases hu; exact .inl (beginStart_down hl)) (fun _ _ h => h) (fun _ h => h)
      (fun _ _ _ _ h => h) (fun _ ho h => start_act_down h ho) ht
    exact h.resolve_right fun hok => herr hok.2
  · intro s t _ ht hnot
    have h := exec_keeps_unless_ok (i := .send) (s := s) (fun u => u.lasttx = s.lasttx)
      (fun _ hu => .inl (beginSend_lasttx rfl hu)) (fun _ _ h => h) (fun _ h => h)
      (fun _ _ _ _ h => h) (fun _ ho h => send_act_lasttx h ho) ht
    exact h.resolve_right hnot

end Sys2Proof.Machine
end

section

/-! ## A run as its stages: what is recorded, what time has passed -/

namespace Sys2Proof.Machine

open Claims

/-- t with the operations `es` added to the record and none in flight (R50, R62). -/
def State.recorded (t : State) (es : List L0Event) : State :=
  { t with arb := .idle, history := t.history ++ es }

/-- t after n ticks (R45). -/
def State.later (t : State) (n : Nat) : State := { t with now := t.now + BitVec.ofNat 32 n }

theorem recorded_recorded (t : State) (es es' : List L0Event) :
    (t.recorded es).recorded es' = t.recorded (es ++ es') := by
  simp only [State.recorded, List.append_assoc]

theorem later_later (t : State) (n m : Nat) : (t.later n).later m = t.later (n + m) := by
  simp only [State.later, BitVec.add_assoc, BitVec.ofNat_add]

theorem later_zero (t : State) : t.later 0 = t := by
  simp [State.later]

/-! ### Where a command ends -/

theorem runOver_complete (t : State) (e : ErrCode) (rest : List Input) :
    runOver rest (t.complete e) = { t.complete e with inputs := rest } :=
  runOver_of_not_running rfl rest

theorem runOver_linkUp (t : State) (rest : List Input) :
    runOver rest (linkUp t) = { linkUp t with inputs := rest } :=
  runOver_of_not_running rfl rest

/-! ### Sleeps -/

/-- What follows a sleep does not look at the engine state it came from. -/
theorem wake_withEstate (t : State) (e : EState) (k : SleepKont) :
    wake { t with estate := e } k = wake t k := by
  cases k <;> rfl

theorem sleepThen_withEstate (t : State) (e : EState) (d : Nat) (k : SleepKont) :
    sleepThen { t with estate := e } d k = sleepThen t d k := by
  unfold sleepThen
  split
  · exact wake_withEstate t e k
  · rfl

/-- After every sleep but F_IDLE an operation is issued, the same at any time. -/
theorem wake_issues {k : SleepKont} (hk : k ≠ .fIdle) (t : State) :
    ∃ op k', ∀ n, wake (t.later n) k = (t.later n).issueAck op k' := by
  cases k with
  | s5Idle v => exact ⟨.initBus .fiveBaud t.target [], .s5Init v, fun _ => rfl⟩
  | s5W4 v => exact ⟨.send [~~~t.kb2], .s5TxInv v, fun _ => rfl⟩
  | emitGap c frame rest => exact ⟨.send (rest.take 1), .emitByte c frame (rest.drop 1), fun _ => rfl⟩
  | fIdle => exact absurd rfl hk

/-- Ticks, and the engine acting, with an operation in flight: time passes and nothing else (R182). -/
theorem runOver_waited_inFlight (t : State) (op : AckOp) (k : AckKont) (n : Nat) (rest : List Input) :
    runOver (waited n ++ rest) (t.issueAck op k) = runOver rest ((t.later n).issueAck op k) := by
  have hscript : waited n ++ rest = List.replicate n .tick ++ .engine :: rest := by simp [waited]
  rw [hscript, runOver_ticks (s := t.issueAck op k) rfl]
  rfl

/-- A sleep is over after n ticks, where n is at least its length. A sleep of 0 was over at once, and
what it leads to must not be the end of the command (R46). -/
theorem runOver_waited {t : State} {d n : Nat} {k : SleepKont} (hk : d ≠ 0 ∨ k ≠ .fIdle)
    (hd : d ≤ n) (hn : n < 2 ^ 32) (rest : List Input) :
    runOver (waited n ++ rest) (sleepThen t d k) = runOver rest (wake (t.later n) k) := by
  unfold sleepThen
  split
  · rename_i hzero
    obtain ⟨op, k', hwake⟩ := wake_issues (hk.resolve_left (not_not.mpr hzero)) t
    have hnow : wake t k = t.issueAck op k' := by simpa only [later_zero] using hwake 0
    rw [hnow, hwake, runOver_waited_inFlight]
  · have hscript : waited n ++ rest = List.replicate n .tick ++ .engine :: rest := by simp [waited]
    rw [hscript, runOver_slept (s := { t with estate := .sleeping t.now d k }) rfl hd hn]
    exact congrArg (runOver rest) (wake_withEstate (t.later n) _ k)

/-- A sleep goes on after n ticks, where n is less than its length (R46). -/
theorem runOver_waited_asleep {t : State} {d n : Nat} {k : SleepKont} (hd : n < d) :
    runOver (waited n) (sleepThen t d k) =
      { t.later n with estate := .sleeping t.now d k, inputs := [] } := by
  have hsleep : sleepThen t d k = { t with estate := .sleeping t.now d k } :=
    if_neg (Nat.ne_of_gt (Nat.zero_lt_of_lt hd))
  rw [hsleep, waited, runOver_asleep (s := { t with estate := .sleeping t.now d k }) rfl hd]
  rfl

/-! ### An operation in flight -/

/-- A command with an operation in flight does not end without a new entry in the record (R62). -/
theorem runOver_records {t : State} (ht : t.estate.inFlight.isSome = true) (evs : List Input)
    (hidle : (runOver evs t).estate = .idle) : (runOver evs t).history ≠ t.history := by
  have hrun := runOver_induct
    (fun u => u.estate.inFlight.isSome = true ∧ u.history = t.history ∨
      t.history.length < u.history.length)
    (fun _ _ h => h) (fun _ h => h)
    (fun u a h => ?answer) (fun u h => ?act) evs t (.inl ⟨ht, rfl⟩)
  case answer =>
    have grows (op : L0Op) (a : L0Answer) (e : EState) :
        t.history.length < (u.settle op a e).history.length := by
      rw [settle_history, List.length_append, List.length_singleton]
      obtain ⟨-, heq⟩ | hlt := h
      · rw [heq]
        omega
      · omega
    obtain heq | ⟨op, k, -, ⟨-, heq⟩ | ⟨e, -, -, heq⟩⟩ | ⟨init, f, -, -, heq⟩ |
      ⟨m, n, k, -, ⟨d, -, -, -, heq⟩ | ⟨e, -, heq⟩⟩ := answer_cases u a
    · rwa [heq]
    all_goals exact heq.symm ▸ .inr (grows _ _ _)
  case act =>
    obtain ⟨hfly, hhist⟩ | hlt := h
    · have hwait : act u = u := by
        cases he : u.estate with
        | awaitAck | awaitFlags | awaitRecv => simp only [act, he]
        | _ => simp [he, EState.inFlight] at hfly
      exact hwait.symm ▸ .inl ⟨hfly, hhist⟩
    · exact .inr (act_history u ▸ hlt)
  obtain ⟨hfly, -⟩ | hlt := hrun
  · rw [hidle] at hfly
    cases hfly
  · exact fun heq => absurd (congrArg List.length heq) (Nat.ne_of_gt hlt)

end Sys2Proof.Machine
end

section

/-! ## The start of a link up to its initialisation -/

namespace Sys2Proof.Machine

open Claims

/-! ### The table of rule R142 -/

theorem legalPair_iff (s : State) :
    LegalPair s ↔ (selectInit s.proto s.initMode).isSome = true := by
  have table : ∀ c : BitVec 6,
      LegalPair { State.reset with config := c } ↔
        (selectInit { State.reset with config := c }.proto
          { State.reset with config := c }.initMode).isSome = true := by decide
  exact table s.config

theorem selectInit_slow {s : State} {p : Proto} {v : KeyVariant} (hp : s.proto = some p)
    (hv : SlowVariant p v) (hi : s.initMode = 1) :
    selectInit s.proto s.initMode = some (.fiveBaud v) := by
  rw [hp, hi]
  cases hv <;> rfl

theorem selectInit_fast {s : State} (hp : s.proto = some .iso14230) (hi : s.initMode = 2) :
    selectInit s.proto s.initMode = some .fast := by
  rw [hp, hi]
  rfl

theorem selectInit_noInit {s : State} {p : Proto} (hp : s.proto = some p)
    (h : p = .j1850 ∨ p = .raw) (hi : s.initMode ≠ 3) :
    selectInit s.proto s.initMode = some .noInit := by
  have table : ∀ i : BitVec 2, i ≠ 3 →
      selectInit (some .j1850) i = some .noInit ∧ selectInit (some .raw) i = some .noInit := by decide
  rw [hp]
  obtain rfl | rfl := h
  · exact (table _ hi).1
  · exact (table _ hi).2

/-! ### The prologue -/

/-- The initialisation that START selected begins, its registers loaded (R140, R144, R145, R147, R159). -/
def beginInit (s : State) : InitKind → State
  | .noInit => linkUp s
  | .fiveBaud v =>
    if s.l0Has .slow then s.issueAck .flush (.s5Flush v) else failDown s .protocolNotSupported
  | .fast =>
    if s.l0Has .fast then sleepThen s s.params.tIdleFast .fIdle
    else failDown s .protocolNotSupported

theorem onGetFlags_eq_beginInit (s : State) (f : BitVec 9) (init : InitKind) :
    onGetFlags s f init = beginInit (loadConnection s f) init := by
  cases init <;> rfl

/-- START loads the registers of a protocol that CONFIG names (R143). -/
theorem loadConnection_eq {u : State} {p : Proto} (hp : u.proto = some p) (f : BitVec 9) :
    loadConnection u f =
      { u with
        l0flags := f
        flags := f ||| declared p
        tp1max := BitVec.ofNat 16 (u.params.timing p).p1max
        tp2min := BitVec.ofNat 16 (u.params.timing p).p2min
        tp3min := BitVec.ofNat 16 (u.params.timing p).p3min
        tp4min := BitVec.ofNat 16 (u.params.timing p).p4min } := by
  simp only [loadConnection, hp]

theorem beginInit_withEstate (t : State) (e : EState) (init : InitKind) :
    beginInit { t with estate := e } init = beginInit t init := by
  cases init with
  | noInit => rfl
  | fiveBaud v => rfl
  | fast =>
    have hsleep := sleepThen_withEstate t e t.params.tIdleFast .fIdle
    have hhas : ({ t with estate := e } : State).l0Has .fast = t.l0Has .fast := rfl
    simp only [beginInit, hhas, hsleep]
    rfl

/-- A START with its registers loaded, the key bytes `kb` received so far and the operations `es` done
since the prologue. -/
def reached (s : State) (p : Proto) (f : BitVec 9) (kb : BitVec 16) (es : List L0Event) : State :=
  { loaded s p f with keybytes := kb }.recorded (prologueEvents s f ++ es)

@[simp] theorem reached_link (s : State) (p : Proto) (f : BitVec 9) (kb : BitVec 16)
    (es : List L0Event) : (reached s p f kb es).link = s.link := rfl

theorem reached_recorded (s : State) (p : Proto) (f : BitVec 9) (kb : BitVec 16)
    (es es' : List L0Event) :
    (reached s p f kb es).recorded es' = reached s p f kb (es ++ es') := by
  simp only [reached, recorded_recorded, List.append_assoc]

/-- START on a DOWN link with a legal pair runs from its prologue (R141, R143). -/
theorem exec_start_legal {s : State} {init : InitKind} (hl : s.link = .down)
    (hsel : selectInit s.proto s.initMode = some init) :
    exec .start s = .next (runOver s.inputs (startPrologue s init)) := by
  have hbegin : beginStart s = startPrologue s init := by
    simp only [beginStart, hl, ne_eq, not_true_eq_false, if_false, hsel]
  rw [exec, execStart, hbegin]
  rfl

/-- START on a DOWN link with a pair that is not legal (R141). -/
theorem exec_start_refused {s : State} (hl : s.link = .down)
    (hsel : selectInit s.proto s.initMode = none) :
    exec .start s = .next (ended s .protocolNotSupported) := by
  have hbegin : beginStart s = s.complete .protocolNotSupported := by
    simp only [beginStart, hl, ne_eq, not_true_eq_false, if_false, hsel]
  rw [exec, execStart, hbegin, runCommand_complete]
  rfl

/-- With set_speed and get_flags answered, the registers are loaded and the selected initialisation
begins (R143). -/
theorem exec_start_loaded {s : State} {p : Proto} {init : InitKind} {f : BitVec 9} {rest : List Input}
    (hl : s.link = .down) (hp : s.proto = some p)
    (hsel : selectInit s.proto s.initMode = some init) (hin : s.inputs = acked ++ gotFlags f ++ rest) :
    exec .start s = .next (runOver rest (beginInit (reached s p f 0 []) init)) := by
  have hspeed : runOver (acked ++ gotFlags f ++ rest) (startPrologue s init) =
      runOver (gotFlags f ++ rest) (((startPrologue s init).settle (.ack (.setSpeed s.speed)) .ok
        (.answeredAck none (.startSetSpeed init))).issueFlags init) :=
    runOver_ok (s := startPrologue s init) (k := .startSetSpeed init) rfl (gotFlags f ++ rest)
  rw [exec_start_legal hl hsel, hin, hspeed]
  refine congrArg Host.Outcome.next ((runOver_flags rfl f rest).trans (congrArg (runOver rest) ?_))
  rw [onGetFlags_eq_beginInit, loadConnection_eq (p := p) ?proto]
  case proto => exact hp
  rw [← beginInit_withEstate (reached s p f 0 []) (.answeredFlags f init)]
  refine congrArg (beginInit · init) ?_
  simp [reached, loaded, prologueEvents, State.recorded, startPrologue, State.settle, State.issueFlags,
    State.issueAck, okEvent]

/-- While a START runs the link is DOWN, so that failing leaves it as it is (R141, R156). -/
theorem runOver_start_fails {t : State} (ht : t.link = .down) (e : ErrCode) (rest : List Input) :
    runOver rest (failDown t e) = { ended t e with inputs := rest } := by
  have hdown : failDown t e = t.complete e := by
    unfold failDown
    rw [← ht]
  rw [hdown, runOver_complete]
  rfl

/-- Every error of an operation of START, at any of its stages, ends it with the link DOWN (R143,
R156). -/
theorem runOver_start_ackErr {k : AckKont} (hk : k.command = .start) {op : AckOp} {e : L0Err}
    (he : op.mayFail e = true) {t : State} (ht : t.link = .down) (rest : List Input) :
    runOver (gotErr e ++ rest) (t.issueAck op k) =
      { ended (t.recorded [errEvent op e]) e.toCode with inputs := rest } := by
  refine (runOver_ackErr rfl he rest).trans ?_
  cases k with
  | startSetSpeed | s5Flush | s5Init | s5TxInv =>
    exact runOver_start_fails (t := t.recorded [errEvent op e]) ht _ rest
  | fInit => cases hk
  | emitFrame c | emitByte c => exact absurd hk c.not_start
  | rx1850Resend c => exact absurd hk c.not_start_send.1

theorem runOver_start_recvErr {k : RecvKont} (hk : k.command = .start) (m n : Nat) (e : L0Err)
    {t : State} (ht : t.link = .down) (rest : List Input) :
    runOver (gotErr e ++ rest) (t.issueRecv m n k) =
      { ended (t.recorded [recvErr m n e]) e.toCode with inputs := rest } := by
  refine (runOver_recvErr rfl rest).trans ?_
  cases k with
  | s5Kb1 | s5Kb2 | s5RxInv =>
    exact runOver_start_fails (t := t.recorded [recvErr m n e]) ht _ rest
  | rxWaitFirst c | rxAccum c | rxWaitMore c | rxRaw c | rx1850 c =>
    exact absurd hk c.not_start_send.1
  | l3Probe p | l3Normal p | l3Drain p => exact absurd hk p.caller.not_start_send.1

/-! ### Refusals -/

/-- A START that issues its first operation never ends as a refused one: its record is longer. -/
theorem exec_start_legal_ne_refused {s : State} {init : InitKind} (hl : s.link = .down)
    (hsel : selectInit s.proto s.initMode = some init) :
    exec .start s ≠ .next (ended s .protocolNotSupported) := by
  rw [exec_start_legal hl hsel]
  intro h
  have hrun := Host.Outcome.next.inj h
  exact runOver_records (t := startPrologue s init) rfl s.inputs (by rw [hrun]; rfl)
    (by rw [hrun]; rfl)

/-- Where the initialisation cannot begin, the prologue's registers stay (R144). -/
theorem exec_start_unsupported {s : State} {p : Proto} {init : InitKind} {f : BitVec 9}
    {rest : List Input} (hl : s.link = .down) (hp : s.proto = some p)
    (hsel : selectInit s.proto s.initMode = some init) (hin : s.inputs = acked ++ gotFlags f ++ rest)
    (hfail : beginInit (reached s p f 0 []) init =
      failDown (reached s p f 0 []) .protocolNotSupported) :
    exec .start s = .next
      { ended (loaded s p f) .protocolNotSupported with
        history := s.history ++ prologueEvents s f
        inputs := rest } := by
  rw [exec_start_loaded hl hp hsel hin, hfail, runOver_start_fails (t := reached s p f 0 []) hl]
  rfl

/-- Settles O27: a legal START leaves a record, which a refused one does not; and the check of the L0
flags fails before the initialisation begins. -/
theorem startRefusals : Obligations.StartRefusals := by
  constructor
  · intro s hl
    rw [legalPair_iff]
    cases hsel : selectInit s.proto s.initMode with
    | none => simp [exec_start_refused hl hsel]
    | some init => simp [exec_start_legal_ne_refused hl hsel]
  · rintro s p f rest hl hp (⟨⟨v, hv⟩, hi, hcap⟩ | ⟨rfl, hi, hcap⟩) hin
    · exact exec_start_unsupported hl hp (selectInit_slow hp hv hi) hin
        (if_neg (Bool.eq_false_iff.mp hcap))
    · exact exec_start_unsupported hl hp (selectInit_fast hp hi) hin
        (if_neg (Bool.eq_false_iff.mp hcap))

/-- Settles O28. -/
theorem startWithoutInit : Obligations.StartWithoutInit := by
  intro s p f rest hl hp hkind hi hin
  rw [exec_start_loaded hl hp (selectInit_noInit hp hkind hi) hin, beginInit, runOver_linkUp]
  simp only [linkUp, State.complete, ended]
  rfl

end Sys2Proof.Machine
end

section

/-! ## START by the 5-baud handshake -/

namespace Sys2Proof.Machine

open Claims

/-! ### Each state of the handshake on the answer that it waits for -/

section Stages

variable (t : State) (v : KeyVariant) (rest : List Input)

theorem runOver_s5Flush :
    runOver (acked ++ rest) (t.issueAck .flush (.s5Flush v)) =
      runOver rest (sleepThen (t.recorded [okEvent .flush]) t.params.tIdle5baud (.s5Idle v)) :=
  (runOver_ok (s := t.issueAck .flush (.s5Flush v)) rfl rest).trans
    (congrArg (runOver rest) (sleepThen_withEstate (t.recorded [okEvent .flush]) _ _ _))

theorem runOver_s5Init :
    runOver (acked ++ rest) (enterS5Init t v) =
      runOver rest ((t.recorded [okEvent (.initBus .fiveBaud t.target [])]).issueRecv 1
        t.params.w2max (.s5Kb1 v)) :=
  runOver_ok (s := enterS5Init t v) rfl rest

theorem runOver_s5Kb1 (m : Nat) (k1 : Byte) :
    runOver (got [k1] ++ rest) (t.issueRecv 1 m (.s5Kb1 v)) =
      runOver rest (({ t with keybytes := t.kb2 ++ k1 }.recorded [dataEvent 1 m [k1]]).issueRecv 1
        t.params.w3max (.s5Kb2 v)) :=
  runOver_data (s := t.issueRecv 1 m (.s5Kb1 v)) (d := [k1]) rfl le_rfl le_rfl rest

/-- The P2MIN refinement is the table of rule R152, keyed on key byte 1. -/
theorem refineP2_eq : refineP2 t = { t with tp2min := refined t.kb1 t.tp2min } := by
  unfold refineP2 refined
  split
  · rfl
  · split <;> rfl

/-- S5_CHECK and S5_P2 (R150 to R152). -/
theorem s5Check_eq :
    s5Check t v =
      if kbOk v t.kb1 t.kb2 then
        if t.l0Has .doesSlowInit then linkUp { t with tp2min := refined t.kb1 t.tp2min }
        else sleepThen { t with tp2min := refined t.kb1 t.tp2min } t.params.w4min (.s5W4 v)
      else failDown t .wrongKeyBytes := by
  simp only [s5Check, refineP2_eq]
  rfl

theorem s5Check_withEstate (e : EState) : s5Check { t with estate := e } v = s5Check t v := by
  have hsleep := sleepThen_withEstate { t with tp2min := refined t.kb1 t.tp2min } e t.params.w4min
    (.s5W4 v)
  rw [s5Check_eq t, ← hsleep]
  exact s5Check_eq _ v

theorem runOver_s5Kb2 (m : Nat) (k2 : Byte) :
    runOver (got [k2] ++ rest) (t.issueRecv 1 m (.s5Kb2 v)) =
      runOver rest (s5Check ({ t with keybytes := k2 ++ t.kb1 }.recorded [dataEvent 1 m [k2]]) v) :=
  (runOver_data (s := t.issueRecv 1 m (.s5Kb2 v)) (d := [k2]) rfl le_rfl le_rfl rest).trans
    (congrArg (runOver rest)
      (s5Check_withEstate (State.recorded { t with keybytes := k2 ++ t.kb1 } [dataEvent 1 m [k2]]) v
        (.answeredRecv (.data [k2]) t.now (.s5Kb2 v))))

end Stages

/-- S5_RXINV with the inverted address, and S5_DONE (R154, R155). -/
theorem runOver_s5RxInv_ok {t : State} {b : Byte} (hb : b = ~~~t.target) (v : KeyVariant) (m : Nat)
    (rest : List Input) :
    runOver (got [b] ++ rest) (t.issueRecv 1 m (.s5RxInv v)) =
      { linkUp (t.recorded [dataEvent 1 m [b]]) with inputs := rest } := by
  refine (runOver_data (s := t.issueRecv 1 m (.s5RxInv v)) (d := [b]) rfl le_rfl le_rfl rest).trans ?_
  rw [onRecv, onS5RxInv, if_pos ?inverted]
  case inverted => exact hb
  exact runOver_linkUp _ rest

/-- S5_RXINV with another byte (R154). -/
theorem runOver_s5RxInv_wrong {t : State} (ht : t.link = .down) {b : Byte} (hb : b ≠ ~~~t.target)
    (v : KeyVariant) (m : Nat) (rest : List Input) :
    runOver (got [b] ++ rest) (t.issueRecv 1 m (.s5RxInv v)) =
      { ended (t.recorded [dataEvent 1 m [b]]) .wrongKeyBytes with inputs := rest } := by
  refine (runOver_data (s := t.issueRecv 1 m (.s5RxInv v)) (d := [b]) rfl le_rfl le_rfl rest).trans ?_
  rw [onRecv, onS5RxInv, if_neg ?other]
  case other => exact hb
  exact runOver_start_fails (t := t.recorded [dataEvent 1 m [b]]) ht _ rest

/-! ### The key bytes in KEYBYTES -/

theorem kb1_of_append {t : State} {k1 k2 : Byte} (h : t.keybytes = k2 ++ k1) : t.kb1 = k1 := by
  rw [State.kb1, h]
  exact BitVec.extractLsb'_append_eq_right

theorem kb2_of_append {t : State} {k1 k2 : Byte} (h : t.keybytes = k2 ++ k1) : t.kb2 = k2 := by
  rw [State.kb2, h]
  exact BitVec.extractLsb'_append_eq_left

end Sys2Proof.Machine
end

section

/-! ## The runs of a 5-baud START -/

namespace Sys2Proof.Machine

open Claims

/-- The operations of the handshake up to the address (R147). -/
def addressEvents (s : State) : List L0Event :=
  [okEvent .flush, okEvent (.initBus .fiveBaud s.target [])]

/-- The operations of the handshake up to key byte 2 (R147 to R149). -/
def handshakeEvents (s : State) (k1 k2 : Byte) : List L0Event :=
  addressEvents s ++ [dataEvent 1 s.params.w2max [k1], dataEvent 1 s.params.w3max [k2]]

/-- A 5-baud START whose address has been sent, after n ticks of idle guard (R147). -/
def addressed (s : State) (p : Proto) (f : BitVec 9) (n : Nat) : State :=
  (reached s p f 0 (addressEvents s)).later n

/-- A 5-baud START that has received key byte 1 (R148). -/
def halfway (s : State) (p : Proto) (f : BitVec 9) (n : Nat) (k1 : Byte) : State :=
  (reached s p f ((0 : Byte) ++ k1)
    (addressEvents s ++ [dataEvent 1 s.params.w2max [k1]])).later n

/-- A 5-baud START that has received both key bytes (R149). -/
def handshaken (s : State) (p : Proto) (f : BitVec 9) (n : Nat) (k1 k2 : Byte) : State :=
  (reached s p f (k2 ++ k1) (handshakeEvents s k1 k2)).later n

/-- A 5-baud START that has accepted its key bytes (R152). -/
def accepted (s : State) (p : Proto) (f : BitVec 9) (n : Nat) (k1 k2 : Byte) : State :=
  { handshaken s p f n k1 k2 with tp2min := refined k1 (loaded s p f).tp2min }

/-- S5_CHECK on the key bytes received, and what follows it (R150 to R153). -/
theorem s5Check_handshaken (s : State) (p : Proto) (v : KeyVariant) (f : BitVec 9) (n : Nat)
    (k1 k2 : Byte) :
    s5Check (handshaken s p f n k1 k2) v =
      if kbOk v k1 k2 then
        if hasCap f .doesSlowInit then linkUp (accepted s p f n k1 k2)
        else sleepThen (accepted s p f n k1 k2) s.params.w4min (.s5W4 v)
      else failDown (handshaken s p f n k1 k2) .wrongKeyBytes := by
  have hkb : (handshaken s p f n k1 k2).keybytes = k2 ++ k1 := rfl
  rw [s5Check_eq, kb1_of_append hkb, kb2_of_append hkb]
  rfl

theorem accepted_later (s : State) (p : Proto) (f : BitVec 9) (n m : Nat) (k1 k2 : Byte) :
    (accepted s p f n k1 k2).later m = accepted s p f (n + m) k1 k2 :=
  later_later { reached s p f (k2 ++ k1) (handshakeEvents s k1 k2) with
    tp2min := refined k1 (loaded s p f).tp2min } n m

/-- A 5-baud START that has sent the inverted key byte 2 (R153). -/
def acknowledged (s : State) (p : Proto) (f : BitVec 9) (n : Nat) (k1 k2 : Byte) : State :=
  (accepted s p f n k1 k2).recorded [okEvent (.send [~~~k2])]

theorem acknowledged_recorded (s : State) (p : Proto) (f : BitVec 9) (n : Nat) (k1 k2 : Byte)
    (es : List L0Event) :
    (acknowledged s p f n k1 k2).recorded es =
      (accepted s p f n k1 k2).recorded (okEvent (.send [~~~k2]) :: es) :=
  recorded_recorded _ _ _

/-! ### The link is DOWN, and the address as it was -/

@[simp] theorem addressed_link (s : State) (p : Proto) (f : BitVec 9) (n : Nat) :
    (addressed s p f n).link = s.link := by
  simp only [addressed, State.later, reached_link]

@[simp] theorem halfway_link (s : State) (p : Proto) (f : BitVec 9) (n : Nat) (k1 : Byte) :
    (halfway s p f n k1).link = s.link := by
  simp only [halfway, State.later, reached_link]

@[simp] theorem handshaken_link (s : State) (p : Proto) (f : BitVec 9) (n : Nat) (k1 k2 : Byte) :
    (handshaken s p f n k1 k2).link = s.link := by
  simp only [handshaken, State.later, reached_link]

@[simp] theorem accepted_link (s : State) (p : Proto) (f : BitVec 9) (n : Nat) (k1 k2 : Byte) :
    (accepted s p f n k1 k2).link = s.link := by
  simp only [accepted, handshaken_link]

@[simp] theorem acknowledged_link (s : State) (p : Proto) (f : BitVec 9) (n : Nat) (k1 k2 : Byte) :
    (acknowledged s p f n k1 k2).link = s.link := by
  simp only [acknowledged, State.recorded, accepted_link]

theorem acknowledged_target (s : State) (p : Proto) (f : BitVec 9) (n : Nat) (k1 k2 : Byte) :
    (acknowledged s p f n k1 k2).target = s.target := by
  simp only [State.target, acknowledged, accepted, handshaken, reached, loaded, State.recorded,
    State.later]

section Runs

variable {s : State} {p : Proto} {v : KeyVariant} {f : BitVec 9} {n : Nat} {k1 k2 : Byte}
  {rest : List Input} (hl : s.link = .down) (hp : s.proto = some p) (hv : SlowVariant p v)
  (hi : s.initMode = 1) (hslow : hasCap f .slow = true)
include hl hp hv hi hslow

theorem exec_start_flushing (hin : s.inputs = acked ++ gotFlags f ++ rest) :
    exec .start s = .next (runOver rest ((reached s p f 0 []).issueAck .flush (.s5Flush v))) := by
  have hbegin : beginInit (reached s p f 0 []) (.fiveBaud v) =
      (reached s p f 0 []).issueAck .flush (.s5Flush v) := if_pos hslow
  rw [exec_start_loaded hl hp (selectInit_slow hp hv hi) hin, hbegin]

theorem exec_start_flushed (hin : s.inputs = acked ++ gotFlags f ++ acked ++ rest) :
    exec .start s = .next
      (runOver rest (sleepThen (reached s p f 0 [okEvent .flush]) s.params.tIdle5baud
        (.s5Idle v))) := by
  rw [exec_start_flushing hl hp hv hi hslow (hin.trans (List.append_assoc _ _ _)), runOver_s5Flush,
    reached_recorded]
  rfl

theorem exec_start_idle (hn : s.params.tIdle5baud ≤ n) (hn' : n < 2 ^ 32)
    (hin : s.inputs = acked ++ gotFlags f ++ acked ++ waited n ++ rest) :
    exec .start s = .next
      (runOver rest (enterS5Init ((reached s p f 0 [okEvent .flush]).later n) v)) := by
  rw [exec_start_flushed hl hp hv hi hslow (hin.trans (List.append_assoc _ _ _)),
    runOver_waited (k := .s5Idle v) (.inr nofun) hn hn']
  rfl

theorem exec_start_addressed (hn : s.params.tIdle5baud ≤ n) (hn' : n < 2 ^ 32)
    (hin : s.inputs = acked ++ gotFlags f ++ acked ++ waited n ++ acked ++ rest) :
    exec .start s = .next
      (runOver rest ((addressed s p f n).issueRecv 1 s.params.w2max (.s5Kb1 v))) := by
  rw [exec_start_idle hl hp hv hi hslow hn hn' (hin.trans (List.append_assoc _ _ _)),
    runOver_s5Init]
  have hrec : addressed s p f n =
      ((reached s p f 0 [okEvent .flush]).recorded
        [okEvent (.initBus .fiveBaud s.target [])]).later n :=
    congrArg (State.later · n)
      (reached_recorded s p f 0 [okEvent .flush] [okEvent (.initBus .fiveBaud s.target [])]).symm
  rw [hrec]
  rfl

theorem exec_start_kb1 (hn : s.params.tIdle5baud ≤ n) (hn' : n < 2 ^ 32)
    (hin : s.inputs = acked ++ gotFlags f ++ acked ++ waited n ++ acked ++ got [k1] ++ rest) :
    exec .start s = .next
      (runOver rest ((halfway s p f n k1).issueRecv 1 s.params.w3max (.s5Kb2 v))) := by
  rw [exec_start_addressed hl hp hv hi hslow hn hn' (hin.trans (List.append_assoc _ _ _)),
    runOver_s5Kb1]
  have hkb2 : (addressed s p f n).kb2 = 0 := (by decide : (0 : BitVec 16).extractLsb' 8 8 = 0)
  rw [hkb2]
  refine congrArg (fun u : State => Host.Outcome.next
    (runOver rest (u.issueRecv 1 s.params.w3max (.s5Kb2 v)))) ?_
  simp [halfway, State.recorded, State.later, addressed, reached]

theorem exec_start_handshaken (hn : s.params.tIdle5baud ≤ n) (hn' : n < 2 ^ 32)
    (hin : s.inputs = keyByteScript f n k1 k2 ++ rest) :
    exec .start s = .next (runOver rest (s5Check (handshaken s p f n k1 k2) v)) := by
  rw [exec_start_kb1 hl hp hv hi hslow hn hn' (hin.trans (List.append_assoc _ _ _)),
    runOver_s5Kb2, kb1_of_append (k1 := k1) (k2 := 0) rfl]
  refine congrArg (fun u => Host.Outcome.next (runOver rest (s5Check u v))) ?_
  simp [handshaken, handshakeEvents, halfway, State.recorded, State.later, reached]

section Accepted

variable {m : Nat} (hkb : kbOk v k1 k2 = true) (hn : s.params.tIdle5baud ≤ n) (hn' : n < 2 ^ 32)
include hkb hn hn'

/-- The L0 device does the acknowledgement itself (R152, R155). -/
theorem exec_start_device_acknowledges (hdev : hasCap f .doesSlowInit = true)
    (hin : s.inputs = keyByteScript f n k1 k2 ++ rest) :
    exec .start s = .next { linkUp (accepted s p f n k1 k2) with inputs := rest } := by
  rw [exec_start_handshaken hl hp hv hi hslow hn hn' hin, s5Check_handshaken, if_pos hkb, if_pos hdev,
    runOver_linkUp]

variable (hdev : hasCap f .doesSlowInit = false)
include hdev

theorem exec_start_accepted (hin : s.inputs = keyByteScript f n k1 k2 ++ rest) :
    exec .start s = .next
      (runOver rest (sleepThen (accepted s p f n k1 k2) s.params.w4min (.s5W4 v))) := by
  rw [exec_start_handshaken hl hp hv hi hslow hn hn' hin, s5Check_handshaken, if_pos hkb,
    if_neg (Bool.eq_false_iff.mp hdev)]

variable (hm : s.params.w4min ≤ m) (hm' : m < 2 ^ 32)
include hm hm'

theorem exec_start_acknowledging (hin : s.inputs = keyByteScript f n k1 k2 ++ waited m ++ rest) :
    exec .start s = .next
      (runOver rest ((accepted s p f (n + m) k1 k2).issueAck (.send [~~~k2]) (.s5TxInv v))) := by
  have hkb2 : (accepted s p f (n + m) k1 k2).kb2 = k2 := kb2_of_append (k1 := k1) rfl
  rw [exec_start_accepted hl hp hv hi hslow hkb hn hn' hdev (hin.trans (List.append_assoc _ _ _)),
    runOver_waited (k := .s5W4 v) (.inr nofun) hm hm', accepted_later, wake, enterS5TxInv, hkb2]

theorem exec_start_acknowledged
    (hin : s.inputs = keyByteScript f n k1 k2 ++ waited m ++ acked ++ rest) :
    exec .start s = .next
      (runOver rest ((acknowledged s p f (n + m) k1 k2).issueRecv 1 s.params.w4max
        (.s5RxInv v))) := by
  rw [exec_start_acknowledging hl hp hv hi hslow hkb hn hn' hdev hm hm'
    (hin.trans (List.append_assoc _ _ _))]
  exact congrArg Host.Outcome.next
    (runOver_ok (s := (accepted s p f (n + m) k1 k2).issueAck (.send [~~~k2]) (.s5TxInv v)) rfl rest)

end Accepted

end Runs

/-! ### Where the handshake ends -/

theorem linkUp_accepted (s : State) (p : Proto) (f : BitVec 9) (n : Nat) (k1 k2 : Byte)
    (es : List L0Event) (rest : List Input) :
    { linkUp ((accepted s p f n k1 k2).recorded es) with inputs := rest } =
      { ended (loaded s p f) .ok with
        link := .up
        keybytes := k2 ++ k1
        tp2min := refined k1 (loaded s p f).tp2min
        now := s.now + BitVec.ofNat 32 n
        history := s.history ++ keyByteEvents s f k1 k2 ++ es
        inputs := rest } := by
  simp only [linkUp, State.complete, ended]
  rfl

theorem ended_accepted (s : State) (p : Proto) (f : BitVec 9) (n : Nat) (k1 k2 : Byte)
    (es : List L0Event) (e : ErrCode) (rest : List Input) :
    { ended ((accepted s p f n k1 k2).recorded es) e with inputs := rest } =
      { ended { loaded s p f with
          keybytes := k2 ++ k1
          tp2min := refined k1 (loaded s p f).tp2min
          now := s.now + BitVec.ofNat 32 n } e with
        history := s.history ++ keyByteEvents s f k1 k2 ++ es
        inputs := rest } := rfl

theorem ended_reached (s : State) (p : Proto) (f : BitVec 9) (kb : BitVec 16) (n : Nat)
    (es es' : List L0Event) (e : ErrCode) (rest : List Input) :
    { ended (((reached s p f kb es).later n).recorded es') e with inputs := rest } =
      { ended (loaded s p f) e with
        keybytes := kb
        now := s.now + BitVec.ofNat 32 n
        history := s.history ++ (prologueEvents s f ++ es) ++ es'
        inputs := rest } := rfl

/-- Settles O29: the stages of the handshake one after another; and where the script ends within a wait,
the sleep goes on. -/
theorem startFiveBaud : Obligations.StartFiveBaud := by
  refine ⟨?_, ?_, ?_, ?_⟩
  · intro s p v f n₁ n₂ k1 k2 rest hl hp hv hi hslow hdev hkb hn hn' hm hm' hin
    rw [exec_start_acknowledged hl hp hv hi hslow hkb hn hn' hdev hm hm'
        (hin.trans (List.append_assoc _ _ _)),
      runOver_s5RxInv_ok (t := acknowledged s p f (n₁ + n₂) k1 k2) (by rw [acknowledged_target]),
      acknowledged_recorded]
    exact congrArg Host.Outcome.next (linkUp_accepted s p f (n₁ + n₂) k1 k2 _ rest)
  · intro s p v f n k1 k2 rest hl hp hv hi hslow hdev hkb hn hn' hin
    rw [exec_start_device_acknowledges hl hp hv hi hslow hkb hn hn' hdev hin]
    rfl
  · intro s p v f n hl hp hv hi hslow hn hin
    have hexec := exec_start_flushed hl hp hv hi hslow hin
    rw [runOver_waited_asleep hn] at hexec
    refine ⟨_, hexec, ⟨rfl, _, _, _, rfl⟩, hl, ?_⟩
    exact (List.append_assoc _ _ _).symm
  · intro s p v f n₁ n₂ k1 k2 hl hp hv hi hslow hdev hkb hn hn' hm hin
    have hexec := exec_start_accepted hl hp hv hi hslow hkb hn hn' hdev hin
    rw [runOver_waited_asleep hm] at hexec
    exact ⟨_, hexec, ⟨rfl, _, _, _, rfl⟩, hl, rfl⟩

/-! ### The key bytes that a variant accepts, and every failure of the handshake -/

theorem kbOk_v9141_iff (k1 k2 : Byte) :
    kbOk .v9141 k1 k2 = true ↔ k1 = k2 ∧ (k1 = 0x08 ∨ k1 = 0x94) := by
  simp [kbOk]

theorem kbOk_vvag_iff (k1 k2 : Byte) : kbOk .vvag k1 k2 = true ↔ k1 = 0x01 ∧ k2 = 0x8A := by
  simp [kbOk]

/-- `L0.send` may answer every error but Timeout (R59). -/
theorem send_mayFail {e : L0Err} (he : e ≠ .timeout) (bs : List Byte) :
    (AckOp.send bs).mayFail e = true := by
  cases e with
  | timeout => exact absurd rfl he
  | busError | ioError => rfl

/-- set_speed answered with an error (R143). -/
theorem exec_start_setSpeed_fails {s : State} {e : L0Err} {rest : List Input} (hl : s.link = .down)
    (hlegal : LegalPair s) (hin : s.inputs = gotErr e ++ rest) :
    exec .start s = .next
      { ended s e.toCode with
        keybytes := 0
        fastbuf := []
        lasttx := none
        arb := .idle
        history := s.history ++ [errEvent (.setSpeed s.speed) e]
        inputs := rest } := by
  obtain ⟨init, hsel⟩ := Option.isSome_iff_exists.mp ((legalPair_iff s).mp hlegal)
  rw [exec_start_legal hl hsel, hin]
  exact congrArg Host.Outcome.next
    (runOver_start_ackErr (k := .startSetSpeed init) rfl rfl
      (t := { s with keybytes := 0, fastbuf := [], lasttx := none }) hl rest)

/-- Settles O30: the key-byte table of each variant, and each stage of START with its answer an error. -/
theorem startWrongKeyBytes : Obligations.StartWrongKeyBytes := by
  refine ⟨fun k1 k2 => ⟨kbOk_v9141_iff k1 k2, rfl, kbOk_vvag_iff k1 k2⟩, ?_,
    fun s e rest hl hlegal hin => exec_start_setSpeed_fails hl hlegal hin, ?_⟩
  · intro s p v f n k1 k2 rest hl hp hv hi hslow hkb hn hn' hin
    rw [exec_start_handshaken hl hp hv hi hslow hn hn' hin, s5Check_handshaken,
      if_neg (Bool.eq_false_iff.mp hkb),
      runOver_start_fails (t := handshaken s p f n k1 k2) (by simp [hl])]
    rfl
  · intro s p v f n₁ n₂ k1 k2 e rest hl hp hv hi hslow hn hn'
    refine ⟨fun hin => ?_, fun hin => ?_, fun hin => ?_, fun hin => ?_,
      fun hdev hkb hm hm' => ⟨fun he hin => ?_, fun hin => ?_, fun b hb hin => ?_⟩⟩
    · rw [exec_start_flushing hl hp hv hi hslow (hin.trans (List.append_assoc _ _ _)),
        runOver_start_ackErr rfl rfl (t := reached s p f 0 []) hl]
      rfl
    · rw [exec_start_idle hl hp hv hi hslow hn hn' (hin.trans (List.append_assoc _ _ _)), enterS5Init,
        runOver_start_ackErr rfl rfl (t := (reached s p f 0 [okEvent .flush]).later n₁) hl]
      rfl
    · rw [exec_start_addressed hl hp hv hi hslow hn hn' (hin.trans (List.append_assoc _ _ _)),
        runOver_start_recvErr rfl _ _ _ (t := addressed s p f n₁) (by simp [hl])]
      rfl
    · rw [exec_start_kb1 hl hp hv hi hslow hn hn' (hin.trans (List.append_assoc _ _ _)),
        runOver_start_recvErr rfl _ _ _ (t := halfway s p f n₁ k1) (by simp [hl])]
      exact congrArg Host.Outcome.next ((ended_reached s p f _ n₁ _ _ _ rest).trans
        (by simp only [addressEvents, List.append_assoc, List.cons_append, List.nil_append]))
    · rw [exec_start_acknowledging hl hp hv hi hslow hkb hn hn' hdev hm hm'
          (hin.trans (List.append_assoc _ _ _)),
        runOver_start_ackErr rfl (send_mayFail he [~~~k2])
          (t := accepted s p f (n₁ + n₂) k1 k2) (by simp [hl])]
      exact congrArg Host.Outcome.next (ended_accepted s p f (n₁ + n₂) k1 k2 _ _ rest)
    · rw [exec_start_acknowledged hl hp hv hi hslow hkb hn hn' hdev hm hm'
          (hin.trans (List.append_assoc _ _ _)),
        runOver_start_recvErr rfl _ _ _ (t := acknowledged s p f (n₁ + n₂) k1 k2) (by simp [hl]),
        acknowledged_recorded]
      exact congrArg Host.Outcome.next (ended_accepted s p f (n₁ + n₂) k1 k2 _ _ rest)
    · rw [exec_start_acknowledged hl hp hv hi hslow hkb hn hn' hdev hm hm'
          (hin.trans (List.append_assoc _ _ _)),
        runOver_s5RxInv_wrong (t := acknowledged s p f (n₁ + n₂) k1 k2) (by simp [hl])
          (by rwa [acknowledged_target]),
        acknowledged_recorded]
      exact congrArg Host.Outcome.next (ended_accepted s p f (n₁ + n₂) k1 k2 _ _ rest)

end Sys2Proof.Machine
end

section

/-! ## START of a fast init, and the SENDs that follow it -/

namespace Sys2Proof.Machine

open Claims

theorem beginInit_fast {t : State} (h : t.l0Has .fast = true) :
    beginInit t .fast = sleepThen t t.params.tIdleFast .fIdle := if_pos h

/-- F_PENDING ends the START (R160). -/
theorem runOver_enterFastPending (t : State) (rest : List Input) :
    runOver rest (enterFastPending t) = { enterFastPending t with inputs := rest } :=
  runOver_of_not_running rfl rest

/-- Settles O31: the idle wait, which is none where T_IDLE_FAST is 0, and F_PENDING. -/
theorem startFastInit : Obligations.StartFastInit := by
  intro s f n rest hl hp hi hcap
  have begins {evs : List Input} (hin : s.inputs = acked ++ gotFlags f ++ evs) :
      exec .start s = .next
        (runOver evs (sleepThen (reached s .iso14230 f 0 []) s.params.tIdleFast .fIdle)) := by
    rw [exec_start_loaded hl hp (selectInit_fast hp hi) hin,
      beginInit_fast (t := reached s .iso14230 f 0 []) hcap]
    rfl
  constructor
  · intro hn hn' hzero hin
    have hrun := begins (hin.trans (List.append_assoc _ _ _))
    have hpending : exec .start s = .next
        (runOver rest (enterFastPending ((reached s .iso14230 f 0 []).later n))) := by
      by_cases hd : s.params.tIdleFast = 0
      · rw [hrun, if_pos hd, List.nil_append, hd, hzero hd, later_zero]
        rfl
      · rw [hrun, if_neg hd, runOver_waited (.inl hd) hn hn']
        rfl
    rw [hpending, runOver_enterFastPending]
    rfl
  · intro hn hin
    have hexec := begins hin
    rw [runOver_waited_asleep hn] at hexec
    exact ⟨_, hexec, ⟨rfl, _, _, _, rfl⟩, hl, rfl⟩

/-- A SEND on a FAST_PENDING link takes the bytes of TXBUF (R162). -/
theorem exec_send_fastPending {s : State} {bs : List Byte} (hl : s.link = .fastPending)
    (htx : TxHolds s bs) : exec .send s = .next (runCommand (fastAccum s bs)) := by
  have hbegin : beginSend s = .next (fastAccum s bs) := by
    simp only [beginSend, hl, onTxBytes_of_bytes (txbytes_of_txHolds htx)]
  rw [exec, execSend, hbegin, thenRun_next]

/-! ### What F_ACCUM does with the bytes, by their number (R162) -/

theorem fastAccum_refused {s : State} {bs : List Byte}
    (h : bs = [] ∨ 5 < s.fastbuf.length + bs.length) : fastAccum s bs = s.complete .badLength := by
  by_cases hempty : bs.length = 0
  · exact if_pos hempty
  · have hlong : s.fastbuf.length + bs.length > Config.fastInitLen :=
      h.resolve_left fun hnil => hempty (List.length_eq_zero_iff.mpr hnil)
    rw [fastAccum, if_neg hempty, if_pos hlong]

theorem fastAccum_buffered {s : State} {bs : List Byte} (hne : bs ≠ [])
    (h : s.fastbuf.length + bs.length < 5) :
    fastAccum s bs = { s with fastbuf := s.fastbuf ++ bs }.complete .ok := by
  have hnotLong : ¬s.fastbuf.length + bs.length > Config.fastInitLen :=
    Nat.not_lt.mpr (Nat.le_of_lt h)
  rw [fastAccum, if_neg (mt List.length_eq_zero_iff.mp hne), if_neg hnotLong]
  exact if_pos h

theorem fastAccum_full {s : State} {bs : List Byte} (hne : bs ≠ [])
    (h : s.fastbuf.length + bs.length = 5) : fastAccum s bs = enterFInit s (s.fastbuf ++ bs) := by
  rw [fastAccum, if_neg (mt List.length_eq_zero_iff.mp hne), h, if_neg (by decide),
    if_neg (by decide)]

theorem runCommand_enterFInit {s : State} {bs : List Byte} {evs : List Input} (hin : s.inputs = evs) :
    runCommand (enterFInit s bs) = runOver evs (enterFInit s bs) :=
  congrArg (runOver · (enterFInit s bs)) hin

/-- Settles O33: the bytes by their number, and F_INIT with each answer of the transaction. -/
theorem fastInitAccumulation : Obligations.FastInitAccumulation := by
  intro s bs hl htx
  refine ⟨fun h => ?_, fun hne h => ?_, fun hne h => ⟨fun rest hin => ?_, fun e rest hin => ?_⟩⟩
  · rw [exec_send_fastPending hl htx, fastAccum_refused h, runCommand_complete]
    rfl
  · rw [exec_send_fastPending hl htx, fastAccum_buffered hne h, runCommand_complete]
    rfl
  · rw [exec_send_fastPending hl htx, fastAccum_full hne h, runCommand_enterFInit hin]
    exact congrArg Host.Outcome.next
      ((runOver_ok (s := enterFInit s (s.fastbuf ++ bs)) rfl rest).trans (runOver_linkUp _ rest))
  · rw [exec_send_fastPending hl htx, fastAccum_full hne h, runCommand_enterFInit hin]
    exact congrArg Host.Outcome.next
      ((runOver_ackErr (s := enterFInit s (s.fastbuf ++ bs)) rfl rfl rest).trans
        (runOver_of_not_running rfl rest))

end Sys2Proof.Machine
end

section

/-! ## `emit` over its events, for every sending command -/

namespace Sys2Proof.Machine

open Claims

/-- CONFIG.PROTO names a K-line protocol by its numbers 0 and 1 (R24). -/
theorem proto_kLine_iff (s : State) :
    s.proto = some .iso9141 ∨ s.proto = some .iso14230 ↔
      s.config.extractLsb' 0 3 = 0 ∨ s.config.extractLsb' 0 3 = 1 := by
  have table : ∀ c : BitVec 6,
      ({ State.reset with config := c }.proto = some .iso9141 ∨
          { State.reset with config := c }.proto = some .iso14230) ↔
        (c.extractLsb' 0 3 = 0 ∨ c.extractLsb' 0 3 = 1) := by decide
  exact table s.config

/-- The condition of R189 as the statements write it. -/
theorem byteByByte_iff (s : State) (frame : List Byte) :
    ByteByByte s frame ↔ s.bytewise frame = true := by
  rw [bytewise_iff, proto_kLine_iff]
  rfl

/-- An operation is answered with an error that ends the command (R61, R189). -/
theorem runOver_ack_fails {t : State} {op : AckOp} {k : AckKont} {e : L0Err}
    (hk : ∀ u, onAck u (some e) k = u.complete e.toCode) (he : op.mayFail e = true)
    (rest : List Input) :
    runOver (gotErr e ++ rest) (t.issueAck op k) =
      { ended (t.recorded [errEvent op e]) e.toCode with inputs := rest } := by
  refine (runOver_ackErr rfl he rest).trans ?_
  rw [hk, runOver_complete]
  rfl

/-! ### What follows a send does not look at the engine state it came from -/

theorem probeStep_withEstate (t : State) (e : EState) (p : ByteRun) :
    probeStep { t with estate := e } p = probeStep t p := by
  rw [probeStep_eq, probeStep_eq]
  rfl

theorem probeError_withEstate (t : State) (e : EState) (p : ByteRun) (err : ErrCode) :
    probeError { t with estate := e } p err = probeError t p err := by
  unfold probeError
  rw [probeStep_withEstate]
  rfl

theorem enterProbe_withEstate (t : State) (e : EState) (p : ByteRun) :
    enterProbe { t with estate := e } p = enterProbe t p := by
  have herr : probeError { t with estate := e } p = probeError t p :=
    funext (probeError_withEstate t e p)
  unfold enterProbe
  rw [herr]
  rfl

theorem keepaliveReceive_withEstate (t : State) (e : EState) :
    keepaliveReceive { t with estate := e } = keepaliveReceive t := by
  unfold keepaliveReceive
  rw [enterProbe_withEstate]
  rfl

theorem afterEmit_withEstate (t : State) (e : EState) (c : Sender) (frame : List Byte) :
    afterEmit { t with estate := e } c frame = afterEmit t c frame := by
  cases c with
  | send | request | l3Send => rfl
  | keepalive => exact keepaliveReceive_withEstate { t with lasttx := some frame, l3idle := t.now } e

/-! ### Byte by byte -/

/-- The bytes of a frame from index k on, where there is one, begin with byte k. -/
theorem map_take_succ_send (frame : List Byte) {k : Nat} (hk : k < frame.length) :
    (frame.take (k + 1)).map (fun b => okEvent (.send [b])) =
      (frame.take k).map (fun b => okEvent (.send [b])) ++ [okEvent (.send ((frame.drop k).take 1))] := by
  rw [List.take_succ_eq_append_getElem hk, List.map_append, List.drop_eq_getElem_cons hk]
  rfl

/-- `emit` byte by byte with byte k of the frame, counted from 0, in flight (R189). -/
def byteInFlight (t : State) (c : Sender) (frame : List Byte) (k : Nat) : State :=
  t.issueAck (.send ((frame.drop k).take 1)) (.emitByte c frame (frame.drop (k + 1)))

/-- t with the first k bytes of the frame on the wire, n ticks after each (R189). -/
def bytesSent (t : State) (n : Nat) (frame : List Byte) (k : Nat) : State :=
  (t.recorded ((frame.take k).map fun b => okEvent (.send [b]))).later (n * k)

theorem emit_bytewise {s : State} {frame : List Byte} (h : ByteByByte s frame) (c : Sender) :
    emit s c frame = byteInFlight s c frame 0 :=
  if_pos ((byteByByte_iff s frame).mp h)

theorem emit_whole {s : State} {frame : List Byte} (h : ¬ByteByByte s frame) (c : Sender) :
    emit s c frame = s.issueAck (.send frame) (.emitFrame c frame) :=
  if_neg (mt (byteByByte_iff s frame).mpr h)

section Bytewise

variable {t : State} {c : Sender} {frame : List Byte} {n : Nat}

/-- A byte that is not the last one is answered Ok: the gap of TP4MIN begins (R189). -/
theorem runOver_byte_ok {k : Nat} (hk : k + 1 < frame.length) (evs : List Input) :
    runOver (acked ++ evs) (byteInFlight t c frame k) =
      runOver evs (sleepThen (t.recorded [okEvent (.send ((frame.drop k).take 1))]) t.tp4min.toNat
        (.emitGap c frame (frame.drop (k + 1)))) := by
  have hrest : frame.drop (k + 1) ≠ [] := mt List.drop_eq_nil_iff.mp (Nat.not_le.mpr hk)
  refine (runOver_ok rfl evs).trans (congrArg (runOver evs) ?_)
  exact (if_neg hrest).trans (sleepThen_withEstate (t.recorded _) _ _ _)

/-- The last byte is answered Ok: the frame is on the wire (R189). -/
theorem runOver_lastByte_ok {k : Nat} (hk : frame.length = k + 1) (evs : List Input) :
    runOver (acked ++ evs) (byteInFlight t c frame k) =
      runOver evs (afterEmit (t.recorded [okEvent (.send ((frame.drop k).take 1))]) c frame) := by
  have hrest : frame.drop (k + 1) = [] := List.drop_eq_nil_iff.mpr (Nat.le_of_eq hk)
  refine (runOver_ok rfl evs).trans (congrArg (runOver evs) ?_)
  exact (if_pos hrest).trans (afterEmit_withEstate (t.recorded _) _ _ _)

variable (hn : t.tp4min.toNat ≤ n) (hn' : n < 2 ^ 32)
include hn hn'

/-- Over a gap of at least TP4MIN the next byte goes out (R189). -/
theorem runOver_gap {k : Nat} (hk : k + 1 < frame.length) (evs : List Input) :
    runOver (acked ++ waited n ++ evs) (byteInFlight t c frame k) =
      runOver evs (byteInFlight ((t.recorded [okEvent (.send ((frame.drop k).take 1))]).later n) c
        frame (k + 1)) := by
  have hgap : SleepKont.emitGap c frame (frame.drop (k + 1)) ≠ .fIdle := nofun
  rw [List.append_assoc, runOver_byte_ok hk, runOver_waited (.inr hgap) hn hn']
  simp only [wake, emitNext, byteInFlight, List.drop_drop]

/-- The first k bytes, each answered Ok and followed by a gap (R189). -/
theorem runOver_bytes {k : Nat} (hk : k < frame.length) (evs : List Input) :
    runOver ((List.replicate k (acked ++ waited n)).flatten ++ evs) (byteInFlight t c frame 0) =
      runOver evs (byteInFlight (bytesSent t n frame k) c frame k) := by
  induction k generalizing evs with
  | zero => simp [bytesSent, State.recorded, State.later, byteInFlight, State.issueAck]
  | succ k ih =>
    have hscript : (List.replicate (k + 1) (acked ++ waited n)).flatten ++ evs =
        (List.replicate k (acked ++ waited n)).flatten ++ (acked ++ waited n ++ evs) := by
      simp [List.replicate_succ']
    have hgap := runOver_gap (t := bytesSent t n frame k) (c := c) hn hn' hk evs
    rw [hscript, ih (Nat.lt_of_succ_lt hk), hgap, bytesSent, bytesSent,
      map_take_succ_send frame (Nat.lt_of_succ_lt hk), ← recorded_recorded, Nat.mul_succ, ← later_later]
    rfl

end Bytewise

/-- The events of a byte-by-byte emit: every byte but the last is followed by a gap. -/
theorem bytewiseScript_succ (n k : Nat) :
    bytewiseScript n (k + 1) = (List.replicate k (acked ++ waited n)).flatten ++ acked := by
  induction k with
  | zero => rfl
  | succ k ih => simp [bytewiseScript, ih, List.replicate_succ]

section Emit

variable {t : State} {c : Sender} {frame : List Byte} {n : Nat}

/-- t once the frame is on the wire, before LASTTX takes it (R189). -/
def emitted (t : State) (n : Nat) (frame : List Byte) : State :=
  (t.recorded (emitEvents t frame)).later (if ByteByByte t frame then n * (frame.length - 1) else 0)

variable (hn : t.tp4min.toNat ≤ n) (hn' : n < 2 ^ 32)
include hn hn'

/-- A frame whose operations are all answered Ok: LASTTX takes it, and the command goes on (R189). -/
theorem runOver_emit (evs : List Input) :
    runOver (emitScript t n frame ++ evs) (emit t c frame) =
      runOver evs (afterEmit (emitted t n frame) c frame) := by
  by_cases hb : ByteByByte t frame
  · obtain ⟨k, hk⟩ : ∃ k, frame.length = k + 1 := ⟨frame.length - 1, by have := hb.2.2; omega⟩
    have hall : frame.map (fun b => okEvent (.send [b])) =
        (frame.take k).map (fun b => okEvent (.send [b])) ++
          [okEvent (.send ((frame.drop k).take 1))] := by
      rw [← map_take_succ_send frame (by omega), ← hk, List.take_length]
    rw [emit_bytewise hb, emitScript, if_pos hb, hk, bytewiseScript_succ, List.append_assoc,
      runOver_bytes hn hn' (by omega), runOver_lastByte_ok hk, emitted, emitEvents, if_pos hb, if_pos hb,
      hall, ← recorded_recorded, hk]
    rfl
  · rw [emit_whole hb, emitScript, if_neg hb, emitted, emitEvents, if_neg hb, if_neg hb, later_zero]
    refine (runOver_ok rfl evs).trans (congrArg (runOver evs) ?_)
    exact afterEmit_withEstate (t.recorded _) _ _ _

/-- The first k operations are answered Ok and the next one with an error: the command ends with it
(R183, R189). -/
theorem runOver_emit_fails {k : Nat} (hk : k < emitCount t frame) {e : L0Err} (he : e ≠ .timeout)
    (rest : List Input) :
    runOver (failScript n k e ++ rest) (emit t c frame) = afterFailure t n k frame e rest := by
  by_cases hb : ByteByByte t frame
  · rw [emitCount, if_pos hb] at hk
    rw [emit_bytewise hb, failScript, List.append_assoc, runOver_bytes hn hn' hk, afterFailure, if_pos hb]
    refine (runOver_ack_fails (fun _ => rfl) (send_mayFail he _) rest).trans ?_
    simp only [bytesSent, State.recorded, State.later, ended]
  · rw [emitCount, if_neg hb, Nat.lt_one_iff] at hk
    subst hk
    rw [emit_whole hb, failScript, List.replicate_zero, List.flatten_nil, List.nil_append, afterFailure,
      if_neg hb]
    refine (runOver_ack_fails (fun _ => rfl) (send_mayFail he _) rest).trans ?_
    simp [ended, State.recorded]

/-- After k bytes and fewer than TP4MIN ticks the next byte is not sent yet (R189). -/
theorem runOver_emit_asleep (hb : ByteByByte t frame) {k m : Nat} (hk : k + 1 < frame.length)
    (hm : m < t.tp4min.toNat) :
    runOver (bytewiseScript n (k + 1) ++ waited m) (emit t c frame) =
      { ((bytesSent t n frame k).recorded [okEvent (.send ((frame.drop k).take 1))]).later m with
        estate := .sleeping (bytesSent t n frame k).now t.tp4min.toNat
          (.emitGap c frame (frame.drop (k + 1)))
        inputs := [] } := by
  rw [emit_bytewise hb, bytewiseScript_succ, List.append_assoc,
    runOver_bytes hn hn' (Nat.lt_of_succ_lt hk), runOver_byte_ok hk]
  exact runOver_waited_asleep hm

end Emit

end Sys2Proof.Machine
end

section

/-! ## SEND on a link that is up -/

namespace Sys2Proof.Machine

open Claims

/-! ### The framers (R185 to R187) -/

theorem frameFor_refused {s : State} {bs : List Byte} (h : FramerRefuses s bs) :
    frameFor s bs = .error .badLength := by
  obtain ⟨rfl, hp⟩ | ⟨hp, hlong⟩ | ⟨hp, hlong⟩ := h
  · simp only [List.mem_cons, List.not_mem_nil, or_false] at hp
    obtain hp | hp | hp | hp := hp <;> simp only [frameFor, hp] <;> rfl
  · simp only [frameFor, hp, frame9141]
    exact if_pos (.inr hlong)
  · simp only [frameFor, hp, frame1850]
    exact if_pos (.inr hlong)

theorem frameFor_iso9141 {s : State} {bs : List Byte} (hp : s.proto = some .iso9141)
    (hmin : 1 ≤ bs.length) (hmax : bs.length ≤ 7) :
    frameFor s bs = .ok ([0x68, 0x6A, s.source] ++ bs ++
      (if s.l0Has .doesL2Checksum then [] else [checksum ([0x68, 0x6A, s.source] ++ bs)])) := by
  have hfits : ¬(bs.length < Config.iso9141MinPayload ∨ bs.length > Config.iso9141MaxPayload) :=
    not_or.mpr ⟨Nat.not_lt.mpr hmin, Nat.not_lt.mpr hmax⟩
  simp only [frameFor, hp, frame9141, if_neg hfits]
  split <;> simp only [List.append_nil]

theorem frameFor_j1850 {s : State} {bs : List Byte} (hp : s.proto = some .j1850)
    (hmin : 1 ≤ bs.length) (hmax : bs.length ≤ s.params.j1850MaxPayload) {header : List Byte}
    (hh : header = [if s.j1850Pwm then 0x61 else 0x68, s.target, s.source]) :
    frameFor s bs = .ok (header ++ bs ++
      (if s.l0Has .doesL2Checksum then [] else [crc8 (header ++ bs)])) := by
  have hfits : ¬(bs.length < 1 ∨ bs.length > s.params.j1850MaxPayload) :=
    not_or.mpr ⟨Nat.not_lt.mpr hmin, Nat.not_lt.mpr hmax⟩
  simp only [frameFor, hp, frame1850, if_neg hfits, hh]
  split <;> simp only [List.append_nil]

theorem frameFor_raw {s : State} {bs : List Byte}
    (hp : s.proto = some .raw ∨ s.proto = some .iso14230) (hne : bs ≠ []) :
    frameFor s bs = .ok bs := by
  have hfits : ¬bs.length < 1 := fun h => hne (List.length_eq_zero_iff.mp (Nat.lt_one_iff.mp h))
  obtain hp | hp := hp <;> simp only [frameFor, hp, frameRaw, if_neg hfits]

/-! ### A send as far as its first operation (R184) -/

/-- VAG answers before TXBUF is read what its framer would have answered (R188). -/
theorem l2Send_of_txHolds {s : State} {bs : List Byte} (htx : TxHolds s bs) (c : Sender) :
    l2Send s c = .next (l2SendBytes s c bs) := by
  by_cases hp : s.proto = some .vag
  · simp only [l2Send, l2SendBytes, frameFor, hp, if_true]
  · rw [l2Send_eq_onTxBytes hp, onTxBytes_of_bytes (txbytes_of_txHolds htx)]

theorem l2SendBytes_refused {s : State} {bs : List Byte} {e : ErrCode} (h : frameFor s bs = .error e)
    (c : Sender) : l2SendBytes s c bs = s.complete e := by
  simp only [l2SendBytes, h]

theorem l2SendBytes_emits {s : State} {bs frame : List Byte} (h : frameFor s bs = .ok frame)
    {c : Sender} (hc : s.answerUnsupported c = false) : l2SendBytes s c bs = emit s c frame := by
  simp only [l2SendBytes, h, hc, Bool.false_eq_true, if_false]

theorem l2SendBytes_unsupported {s : State} {bs frame : List Byte} (h : frameFor s bs = .ok frame)
    {c : Sender} (hc : s.answerUnsupported c = true) :
    l2SendBytes s c bs = s.complete .protocolNotSupported := by
  simp only [l2SendBytes, h, hc, if_true]

theorem exec_send_up {s : State} {bs : List Byte} (hl : s.link = .up) (htx : TxHolds s bs) :
    exec .send s = .next (runCommand (l2SendBytes s .send bs)) := by
  have hbegin : beginSend s = .next (l2SendBytes s .send bs) := by
    simp only [beginSend, hl, l2Send_of_txHolds htx]
  rw [exec, execSend, hbegin, thenRun_next]

theorem exec_send_refused {s : State} {bs : List Byte} {e : ErrCode} (hl : s.link = .up)
    (htx : TxHolds s bs) (h : frameFor s bs = .error e) : exec .send s = .next (ended s e) := by
  rw [exec_send_up hl htx, l2SendBytes_refused h, runCommand_complete]
  rfl

/-- SEND of a frame that the framer builds runs its emit (R183, R184). -/
theorem exec_send_emits {s : State} {bs frame : List Byte} (hl : s.link = .up) (htx : TxHolds s bs)
    (h : frameFor s bs = .ok frame) {evs : List Input} (hin : s.inputs = evs) :
    exec .send s = .next (runOver evs (emit s .send frame)) := by
  have hinputs : (emit s .send frame).inputs = evs :=
    (emit_stretch (Stretch.refl _ s) frame).inputs.trans hin
  rw [exec_send_up hl htx, l2SendBytes_emits h rfl, runCommand, hinputs]

/-- SEND whose operations are all answered Ok ends with OK, the frame on the wire (R183). -/
theorem exec_send_ok {s : State} {bs frame : List Byte} {n : Nat} {rest : List Input} (hl : s.link = .up)
    (htx : TxHolds s bs) (h : frameFor s bs = .ok frame) (hn : s.tp4min.toNat ≤ n) (hn' : n < 2 ^ 32)
    (hin : s.inputs = emitScript s n frame ++ rest) :
    exec .send s = .next (ended (afterFrame s n frame rest) .ok) := by
  rw [exec_send_emits hl htx h hin, runOver_emit hn hn']
  exact congrArg Host.Outcome.next
    (runOver_complete { emitted s n frame with lasttx := some frame } .ok rest)

/-- Settles O37: `emit` over the events of each clause, in both modes. -/
theorem sendEmitsTheFrame : Obligations.SendEmitsTheFrame := by
  refine fun s bs frame n hl htx hf hn hn' => ⟨fun rest hin => ?_, fun k e rest hk he hin => ?_,
    fun hb k m hk hklt hm hin => ?_⟩
  · exact exec_send_ok hl htx hf hn hn' hin
  · rw [exec_send_emits hl htx hf hin, runOver_emit_fails hn hn' hk he]
  · obtain ⟨j, rfl⟩ : ∃ j, k = j + 1 := ⟨k - 1, (Nat.sub_add_cancel hk).symm⟩
    have hexec := exec_send_emits hl htx hf hin
    rw [runOver_emit_asleep hn hn' hb hklt hm] at hexec
    refine ⟨_, hexec, ⟨rfl, _, _, _, rfl⟩, rfl, ?_⟩
    rw [map_take_succ_send frame (Nat.lt_of_succ_lt hklt), ← List.append_assoc]
    rfl

/-- Settles O34: the lengths that the framer refuses, and its frame emitted. -/
theorem sendIso9141Frame : Obligations.SendIso9141Frame := by
  refine fun s bs hl hp htx => ⟨fun h => ?_, fun frame n rest hmin hmax hframe hn hn' hin => ?_⟩
  · refine exec_send_refused hl htx (frameFor_refused ?_)
    obtain hempty | hlong := h
    · exact .inl ⟨List.length_eq_zero_iff.mp (Nat.lt_one_iff.mp hempty), by simp [hp]⟩
    · exact .inr (.inl ⟨hp, hlong⟩)
  · exact exec_send_ok hl htx (hframe ▸ frameFor_iso9141 hp hmin hmax) hn hn' hin

/-- Settles O36: the framer changes nothing, and its frame is emitted. -/
theorem sendRawBytes : Obligations.SendRawBytes := by
  refine fun s bs hl hp htx => ⟨fun hempty => ?_, fun n rest hne hn hn' hin => ?_⟩
  · refine exec_send_refused hl htx (frameFor_refused (.inl ⟨hempty, ?_⟩))
    obtain hp | hp := hp <;> simp [hp]
  · exact exec_send_ok hl htx (frameFor_raw hp hne) hn hn' hin

/-- A frame goes out in one operation on a link that is not a K line (R189). -/
theorem not_byteByByte {s : State} {p : Proto} (hp : s.proto = some p) (h₁ : p ≠ .iso9141)
    (h₂ : p ≠ .iso14230) (frame : List Byte) : ¬ByteByByte s frame := by
  rintro ⟨hk, -⟩
  rw [← proto_kLine_iff, hp] at hk
  simp [h₁, h₂] at hk

/-- Settles O35: the lengths that the framer refuses, and its frame emitted in one operation. -/
theorem sendJ1850Frame : Obligations.SendJ1850Frame := by
  refine fun s bs hl hp htx => ⟨fun h => ?_, fun header frame rest hmin hmax hh hframe hin => ?_⟩
  · refine exec_send_refused hl htx (frameFor_refused ?_)
    obtain hempty | hlong := h
    · exact .inl ⟨List.length_eq_zero_iff.mp (Nat.lt_one_iff.mp hempty), by simp [hp]⟩
    · exact .inr (.inr ⟨hp, hlong⟩)
  · have hwhole : ¬ByteByByte s frame := not_byteByByte hp nofun nofun frame
    have hscript : s.inputs = emitScript s s.tp4min.toNat frame ++ rest := by
      rw [hin, emitScript, if_neg hwhole]
    have hgap : s.tp4min.toNat < 2 ^ 32 := Nat.lt_trans s.tp4min.isLt (by decide)
    rw [exec_send_ok hl htx (hframe ▸ frameFor_j1850 hp hmin hmax hh) (Nat.le_refl _) hgap hscript]
    simp [ended, afterFrame, emitEvents, hwhole]

end Sys2Proof.Machine
end

section

/-! ## RECV begins, and the transfers that issue no operation -/

namespace Sys2Proof.Machine

open Claims

/-- RECV on a link that is up sets RETRIES to 0 and begins its receive (R190). -/
theorem beginRecv_up {s : State} (hl : s.link = .up) :
    beginRecv s = beginReceive (s.setRetries 0) .recv := if_neg (not_not.mpr hl)

/-- A receive whose protocol has none, or whose L0 device does no framing, ends at once (R188, R208). -/
theorem beginReceive_unsupported {s : State}
    (h : s.proto = some .vag ∨ s.proto = some .j1850 ∧ s.l0Has .doesL2Frame = false) (c : Receiver) :
    beginReceive s c = s.complete .protocolNotSupported := by
  obtain hp | ⟨hp, hcap⟩ := h
  · simp only [beginReceive, hp]
  · simp only [beginReceive, hp, hcap, Bool.false_eq_true, if_false]

theorem exec_recv_unsupported {s : State} (hl : s.link = .up)
    (h : s.proto = some .vag ∨ s.proto = some .j1850 ∧ s.l0Has .doesL2Frame = false) :
    exec .recv s = .next { ended s .protocolNotSupported with retries := 0 } := by
  rw [exec, execRecv, beginRecv_up hl, beginReceive_unsupported (s := s.setRetries 0) h,
    runCommand_complete]
  rfl

theorem l2Send_vag {s : State} (hp : s.proto = some .vag) (c : Sender) :
    l2Send s c = .next (s.complete .protocolNotSupported) := if_pos hp

/-- The byte path's first read is not supported on VAG, and nothing was produced before it (R253). -/
theorem enterProbe_vag {s : State} (hp : s.proto = some .vag) (room : Nat) :
    enterProbe s ⟨.l3Recv, room, []⟩ = s.complete .protocolNotSupported := by
  have hread : enterProbe s ⟨.l3Recv, room, []⟩ =
      { s with msgq := s.msgq ++ [] }.complete .protocolNotSupported := if_pos hp
  rw [hread, List.append_nil]

theorem beginL3Recv_vag {s : State} (hp : s.proto = some .vag) (ha : s.l3active = true)
    (hroom : s.msgq.length < 16) :
    beginL3Recv s = (s.setRetries 0).complete .protocolNotSupported := by
  have hfree : ¬s.msgq.length ≥ Config.msgqCap := Nat.not_le.mpr hroom
  simp only [beginL3Recv, ha, if_true, if_neg hfree]
  split
  · exact beginReceive_unsupported (s := s.setRetries 0) (.inl hp) _
  · exact enterProbe_vag (s := s.setRetries 0) hp _

/-- Settles O38: each command's check, before TXBUF is read and before any operation. -/
theorem unsupportedTransfers : Obligations.UnsupportedTransfers := by
  refine ⟨fun s hp => ⟨fun hl => ⟨?_, exec_recv_unsupported hl (.inl hp), ?_⟩, fun ha =>
    ⟨?_, fun hroom => ?_⟩⟩, fun s hl hp hcap => exec_recv_unsupported hl (.inr ⟨hp, hcap⟩)⟩
  · have hbegin : beginSend s = l2Send s .send := by simp only [beginSend, hl]
    rw [exec, execSend, hbegin, l2Send_vag hp, thenRun_next, runCommand_complete]
    rfl
  · have hbegin : beginRequest s = l2Send (s.setRetries 0) .request := if_neg (not_not.mpr hl)
    rw [exec, execRequest, hbegin, l2Send_vag (s := s.setRetries 0) hp, thenRun_next,
      runCommand_complete]
    rfl
  · have hbegin : beginL3Send s = l2Send s .l3Send := if_pos ha
    rw [exec, execL3Send, hbegin, l2Send_vag hp, thenRun_next, runCommand_complete]
    rfl
  · rw [exec, execL3Recv, beginL3Recv_vag hp ha hroom, runCommand_complete]
    rfl

/-- Settles O46. -/
theorem msgPopRemovesHead : Obligations.MsgPopRemovesHead := by
  refine fun s => ⟨fun m q hq => ?_, fun hq => ?_⟩
  · have htail : s.msgq.tail = q := congrArg List.tail hq
    rw [exec, execMsgPop, htail]
    rfl
  · have htail : s.msgq.tail = s.msgq := by rw [hq, List.tail_nil]
    rw [exec, execMsgPop, htail]
    rfl

end Sys2Proof.Machine
end

section

/-! ## A receive over its events: one read after another, and what it delivers -/

namespace Sys2Proof.Machine

open Claims

/-! ### What a record entry and a tick leave of the registers that a receive reads -/

section Fields

variable (t : State) (es : List L0Event) (n : Nat)

@[simp] theorem recorded_msgq : (t.recorded es).msgq = t.msgq := rfl
@[simp] theorem recorded_now : (t.recorded es).now = t.now := rfl
@[simp] theorem recorded_lasttx : (t.recorded es).lasttx = t.lasttx := rfl
@[simp] theorem recorded_timeoutMs : (t.recorded es).timeoutMs = t.timeoutMs := rfl
@[simp] theorem recorded_tp3min : (t.recorded es).tp3min = t.tp3min := rfl
@[simp] theorem recorded_tIb : (t.recorded es).tIb = t.tIb := rfl
@[simp] theorem recorded_waitMore : waitMore (t.recorded es) = waitMore t := rfl
@[simp] theorem recorded_l0flags : (t.recorded es).l0flags = t.l0flags := rfl
@[simp] theorem recorded_params : (t.recorded es).params = t.params := rfl
@[simp] theorem later_msgq : (t.later n).msgq = t.msgq := rfl
@[simp] theorem later_now : (t.later n).now = t.now + BitVec.ofNat 32 n := rfl
@[simp] theorem later_tIb : (t.later n).tIb = t.tIb := rfl
@[simp] theorem later_waitMore : waitMore (t.later n) = waitMore t := rfl
@[simp] theorem later_l0flags : (t.later n).l0flags = t.l0flags := rfl
@[simp] theorem later_params : (t.later n).params = t.params := rfl
@[simp] theorem setRetries_timeoutMs : (t.setRetries n).timeoutMs = t.timeoutMs := rfl
@[simp] theorem setRetries_tIb : (t.setRetries n).tIb = t.tIb := rfl
@[simp] theorem setRetries_waitMore : waitMore (t.setRetries n) = waitMore t := rfl

/-- An operation's entry does not depend on the time. -/
theorem recorded_later : (t.recorded es).later n = (t.later n).recorded es := rfl

end Fields

/-! ### One answer to a read

The engine's action on an answer does not look at the engine state it came from; a receive's next state
is named with that state left open. -/

section Answers

variable {t u : State} {m n : Nat} {k : RecvKont}

theorem runOver_got {d : List Byte} (hmin : d ≠ []) (hmax : d.length ≤ m)
    (hk : ∀ e, onRecv { t.recorded [dataEvent m n d] with estate := e } (.data d) t.now k = u)
    (evs : List Input) : runOver (got d ++ evs) (t.issueRecv m n k) = runOver evs u := by
  refine (runOver_data rfl (List.length_pos_of_ne_nil hmin) hmax evs).trans ?_
  exact congrArg (runOver evs) (hk _)

theorem runOver_gotErr {e : L0Err}
    (hk : ∀ e', onRecv { t.recorded [recvErr m n e] with estate := e' } (.err e) t.now k = u)
    (evs : List Input) : runOver (gotErr e ++ evs) (t.issueRecv m n k) = runOver evs u :=
  (runOver_recvErr rfl evs).trans (congrArg (runOver evs) (hk _))

/-- A read is answered with an error that ends the command (R61). -/
theorem runOver_recv_fails {e : L0Err} (hk : ∀ v time, onRecv v (.err e) time k = v.complete e.toCode)
    (rest : List Input) :
    runOver (gotErr e ++ rest) (t.issueRecv m n k) =
      { ended (t.recorded [recvErr m n e]) e.toCode with inputs := rest } :=
  (runOver_gotErr (u := (t.recorded [recvErr m n e]).complete e.toCode) (fun _ => hk _ _) rest).trans
    (runOver_complete _ _ rest)

/-- Time passes while a read is in flight (R45, R182). -/
theorem runOver_ticks_reading (j : Nat) (evs : List Input) :
    runOver (List.replicate j .tick ++ evs) (t.issueRecv m n k) =
      runOver evs ((t.later j).issueRecv m n k) :=
  runOver_ticks (s := t.issueRecv m n k) rfl j evs

end Answers

/-! ### What a receive delivers (R217) -/

theorem deliver_withEstate (t : State) (e : EState) (c : Receiver) (msgs : List Message) :
    deliver { t with estate := e } c msgs = deliver t c msgs := by
  cases c with
  | recv | request | l3Framed =>
    by_cases hfull : t.msgq.length + msgs.length > Config.msgqCap
    · simp only [deliver, State.appendMsgs, if_pos hfull]
      rfl
    · simp only [deliver, State.appendMsgs, if_neg hfull]
      rfl
  | keepalive => rfl

theorem deliverDecoded_withEstate (t : State) (e : EState) (c : Receiver) (o : Option (List Message)) :
    deliverDecoded { t with estate := e } c o = deliverDecoded t c o := by
  cases o with
  | none => rfl
  | some msgs => exact deliver_withEstate t e c msgs

theorem runOver_deliver_fits {t : State} {msgs : List Message} (hfit : t.msgq.length + msgs.length ≤ 16)
    (rest : List Input) :
    runOver rest (deliver t .recv msgs) =
      { ended t .ok with msgq := t.msgq ++ msgs, inputs := rest } := by
  have happend := appendMsgs_eq_some.mpr ⟨hfit, rfl⟩
  simp only [deliver, happend, runOver_complete]
  rfl

theorem runOver_deliver_full {t : State} {msgs : List Message}
    (hfull : ¬t.msgq.length + msgs.length ≤ 16) (rest : List Input) :
    runOver rest (deliver t .recv msgs) = { ended t .noMemory with inputs := rest } := by
  have happend : t.appendMsgs msgs = none := if_pos (Nat.not_le.mp hfull)
  simp only [deliver, happend, runOver_complete]
  rfl

/-- RECV appends all of the messages where they fit MSGQ, and ends with NoMemory where they do not. -/
theorem runOver_deliver (t : State) (msgs : List Message) (rest : List Input) :
    runOver rest (deliver t .recv msgs) =
      { ended t (if t.msgq.length + msgs.length ≤ 16 then .ok else .noMemory) with
        msgq := t.msgq ++ (if t.msgq.length + msgs.length ≤ 16 then msgs else [])
        inputs := rest } := by
  by_cases hfit : t.msgq.length + msgs.length ≤ 16
  · rw [runOver_deliver_fits hfit, if_pos hfit, if_pos hfit]
  · rw [runOver_deliver_full hfit, if_neg hfit, if_neg hfit, List.append_nil]
    rfl

/-- A frame that is refused makes the whole receive BadData (R198, R210). -/
theorem runOver_badData (t : State) (rest : List Input) :
    runOver rest (deliverDecoded t .recv none) = { ended t .badData with inputs := rest } :=
  runOver_complete t .badData rest

/-! ### RAW and ISO14230 (R202) -/

/-- RECV runs its receive from its first read of FRAME_CAP bytes with TIMEOUT (R191). -/
theorem exec_recv_reads {s : State} {k : RecvKont} (hl : s.link = .up)
    (hk : beginReceive (s.setRetries 0) .recv =
      (s.setRetries 0).issueRecv 64 s.timeout.toNat k) {evs : List Input} (hin : s.inputs = evs) :
    exec .recv s = .next (runOver evs ((s.setRetries 0).issueRecv 64 s.timeout.toNat k)) := by
  rw [exec, execRecv, beginRecv_up hl, hk, runCommand, issueRecv_inputs, setRetries_inputs, hin]

theorem exec_recv_raw {s : State} (hl : s.link = .up)
    (hp : s.proto = some .raw ∨ s.proto = some .iso14230) {evs : List Input} (hin : s.inputs = evs) :
    exec .recv s =
      .next (runOver evs ((s.setRetries 0).issueRecv 64 s.timeout.toNat (.rxRaw .recv))) := by
  refine exec_recv_reads hl ?_ hin
  obtain hp | hp := hp <;> simp only [beginReceive, setRetries_proto, hp] <;> rfl

/-- One raw read is one message. -/
theorem runOver_rxRaw {t : State} {c : Receiver} {m n : Nat} {d : List Byte} (hmin : d ≠ [])
    (hmax : d.length ≤ m) (evs : List Input) :
    runOver (got d ++ evs) (t.issueRecv m n (.rxRaw c)) =
      runOver evs (deliver (t.recorded [dataEvent m n d]) c [rawMsg d t.now]) := by
  refine runOver_got hmin hmax (fun e => ?_) evs
  exact deliver_withEstate (t.recorded [dataEvent m n d]) e c _

/-- Settles O39. -/
theorem recvRawMessage : Obligations.RecvRawMessage := by
  refine ⟨fun s rest hl hp => ⟨fun d hmin hmax hroom hin => ?_, fun e hin => ?_⟩,
    fun s d rest hl hp hmin hmax hfull hin => ?_⟩
  · rw [exec_recv_raw hl hp hin, runOver_rxRaw (List.ne_nil_of_length_pos hmin) hmax,
      runOver_deliver_fits]
    · rfl
    · exact Nat.succ_le_of_lt hroom
  · rw [exec_recv_raw hl hp hin, runOver_recv_fails fun _ _ => rfl]
    rfl
  · rw [exec_recv_raw hl hp hin, runOver_rxRaw (List.ne_nil_of_length_pos hmin) hmax,
      runOver_deliver_full]
    · rfl
    · exact Nat.not_le.mpr (Nat.lt_succ_of_le hfull)

end Sys2Proof.Machine
end

section

/-! ## RECV on ISO9141: the frames, read in chunks -/

namespace Sys2Proof.Machine

open Claims

/-- The sub-state that waits for the first bytes of a frame, after the closed frames before it: RX_WAIT_FIRST
where there is none, RX_WAIT_MORE else (R195, R197). -/
def frameKont (c : Receiver) : List RxFrame → RecvKont
  | [] => .rxWaitFirst c
  | f :: fs => .rxWaitMore c (f :: fs)

theorem frameKont_concat (c : Receiver) (frames : List RxFrame) (f : RxFrame) :
    frameKont c (frames ++ [f]) = .rxWaitMore c (frames ++ [f]) := by
  cases frames <;> rfl

theorem onRecv_frameKont_data (t : State) (c : Receiver) (frames : List RxFrame) (d : List Byte)
    (time : Word) : onRecv t (.data d) time (frameKont c frames) = enterAccum t c frames d time := by
  cases frames <;> rfl

/-- Only a Timeout after a closed frame is no failure (R195, R197). -/
theorem onRecv_frameKont_err {e : L0Err} {frames : List RxFrame} (h : frames = [] ∨ e ≠ .timeout)
    (t : State) (c : Receiver) (time : Word) :
    onRecv t (.err e) time (frameKont c frames) = t.complete e.toCode := by
  cases frames with
  | nil => rfl
  | cons f fs =>
    cases e with
    | timeout => exact absurd rfl (h.resolve_left (List.cons_ne_nil f fs))
    | busError | ioError => rfl

theorem enterAccum_open {cur : List Byte} (h : cur.length < 64) (t : State) (c : Receiver)
    (frames : List RxFrame) (ts : Word) :
    enterAccum t c frames cur ts = t.issueRecv (64 - cur.length) t.tIb (.rxAccum c frames cur ts) :=
  if_neg (Nat.not_le.mpr h)

theorem enterAccum_full {cur : List Byte} (h : cur.length = 64) (t : State) (c : Receiver)
    (frames : List RxFrame) (ts : Word) : enterAccum t c frames cur ts = t.complete .badLength :=
  if_pos (Nat.le_of_eq h.symm)

section Frame

variable {t : State} {c : Receiver} {frames : List RxFrame} {n : Nat}

theorem runOver_firstChunk {d : List Byte} (hmin : d ≠ []) (hmax : d.length ≤ 64) (evs : List Input) :
    runOver (got d ++ evs) (t.issueRecv 64 n (frameKont c frames)) =
      runOver evs (enterAccum (t.recorded [dataEvent 64 n d]) c frames d t.now) := by
  refine runOver_got hmin hmax (fun e => ?_) evs
  rw [onRecv_frameKont_data]
  rfl

theorem runOver_nextChunk {cur d : List Byte} {ts : Word} (hmin : d ≠ [])
    (hmax : cur.length + d.length ≤ 64) (evs : List Input) :
    runOver (got d ++ evs) (enterAccum t c frames cur ts) =
      runOver evs
        (enterAccum (t.recorded [dataEvent (64 - cur.length) t.tIb d]) c frames (cur ++ d) ts) := by
  have hpos := List.length_pos_of_ne_nil hmin
  rw [enterAccum_open (by omega)]
  exact runOver_got hmin (by omega) (fun e => rfl) evs

/-- The chunks after the first one of a frame (R196). -/
theorem runOver_chunks {es : List L0Event} {cur : List Byte} {ts : Word} {cs : List (List Byte)}
    (hne : ∀ d ∈ cs, d ≠ []) (hmax : cur.length + cs.flatten.length ≤ 64) (evs : List Input) :
    runOver ((cs.map got).flatten ++ evs) (enterAccum (t.recorded es) c frames cur ts) =
      runOver evs (enterAccum (t.recorded (es ++ chunkReads t.tIb cur.length t.tIb cs)) c frames
        (cur ++ cs.flatten) ts) := by
  induction cs generalizing es cur with
  | nil => simp only [List.map_nil, List.flatten_nil, List.nil_append, chunkReads, List.append_nil]
  | cons d cs ih =>
    obtain ⟨hd, hcs⟩ := List.forall_mem_cons.mp hne
    rw [List.flatten_cons, List.length_append] at hmax
    have hlen : (cur ++ d).length + cs.flatten.length ≤ 64 := by
      rw [List.length_append]
      omega
    rw [List.map_cons, List.flatten_cons, List.append_assoc, runOver_nextChunk hd (by omega),
      recorded_recorded, ih hcs hlen, List.append_assoc, List.length_append, List.append_assoc,
      List.flatten_cons]
    rfl

/-- The bytes of one frame, in any chunks (R195, R196). -/
theorem runOver_frameBytes {cs : List (List Byte)} (hcs : cs ≠ []) (hne : ∀ d ∈ cs, d ≠ [])
    (hmax : cs.flatten.length ≤ 64) (evs : List Input) :
    runOver ((cs.map got).flatten ++ evs) (t.issueRecv 64 n (frameKont c frames)) =
      runOver evs (enterAccum (t.recorded (chunkReads t.tIb 0 n cs)) c frames cs.flatten t.now) := by
  obtain ⟨d, cs, rfl⟩ := List.exists_cons_of_ne_nil hcs
  obtain ⟨hd, hne⟩ := List.forall_mem_cons.mp hne
  rw [List.flatten_cons, List.length_append] at hmax
  rw [List.map_cons, List.flatten_cons, List.append_assoc, runOver_firstChunk hd (by omega),
    runOver_chunks hne hmax, chunkReads, Nat.zero_add, List.flatten_cons]
  rfl

/-- A frame of FRAME_CAP bytes is too long, and RECV does not wait for its end (R196). -/
theorem runOver_frame_full {cs : List (List Byte)} (hne : ∀ d ∈ cs, d ≠ [])
    (hlen : cs.flatten.length = 64) (rest : List Input) :
    runOver ((cs.map got).flatten ++ rest) (t.issueRecv 64 n (frameKont c frames)) =
      { ended (t.recorded (chunkReads t.tIb 0 n cs)) .badLength with inputs := rest } := by
  have hcs : cs ≠ [] := by
    rintro rfl
    cases hlen
  rw [runOver_frameBytes hcs hne (Nat.le_of_eq hlen), enterAccum_full hlen, runOver_complete]
  rfl

variable {cs : List (List Byte)} (hne : ∀ d ∈ cs, d ≠ []) (hmax : cs.flatten.length < 64)
include hne hmax

/-- One frame, closed by the inter-byte time-out: the wait for more begins (R196, R197). -/
theorem runOver_frame_closed (hcs : cs ≠ []) (evs : List Input) :
    runOver ((cs.map got).flatten ++ (gotErr .timeout ++ evs))
        (t.issueRecv 64 n (frameKont c frames)) =
      runOver evs ((t.recorded (accumReads t.tIb .timeout n cs)).issueRecv 64 (waitMore t)
        (frameKont c (frames ++ [⟨cs.flatten, t.now⟩]))) := by
  rw [runOver_frameBytes hcs hne (Nat.le_of_lt hmax), enterAccum_open hmax, frameKont_concat,
    accumReads, if_neg hcs, ← recorded_recorded]
  exact runOver_gotErr (fun e => rfl) evs

/-- An error other than the time-out that closes a frame ends the receive (R195 to R197). -/
theorem runOver_frame_fails {e : L0Err} (h : cs = [] ∧ frames = [] ∨ e ≠ .timeout) (rest : List Input) :
    runOver ((cs.map got).flatten ++ (gotErr e ++ rest)) (t.issueRecv 64 n (frameKont c frames)) =
      { ended (t.recorded (accumReads t.tIb e n cs)) e.toCode with inputs := rest } := by
  by_cases hcs : cs = []
  · subst hcs
    exact runOver_recv_fails
      (fun v time => onRecv_frameKont_err (h.imp_left And.right) v c time) rest
  · have he : e ≠ .timeout := h.resolve_left fun h => hcs h.1
    have haccum : ∀ v time, onRecv v (.err e) time (.rxAccum c frames cs.flatten t.now) =
        v.complete e.toCode := by
      cases e with
      | timeout => exact absurd rfl he
      | busError | ioError => exact fun _ _ => rfl
    rw [runOver_frameBytes hcs hne (Nat.le_of_lt hmax), enterAccum_open hmax, accumReads, if_neg hcs,
      ← recorded_recorded]
    exact runOver_recv_fails haccum rest

end Frame

/-! ### The decoder reads neither the record nor the clock nor RETRIES -/

theorem decode9141_recorded (t : State) (es : List L0Event) :
    decode9141 (t.recorded es) = decode9141 t := decode9141_congr rfl rfl

theorem decode9141_later (t : State) (n : Nat) : decode9141 (t.later n) = decode9141 t :=
  decode9141_congr rfl rfl

theorem decode9141_setRetries (t : State) (n : Nat) : decode9141 (t.setRetries n) = decode9141 t :=
  decode9141_congr rfl rfl

/-- The wait for more times out: the frames are decoded and delivered (R197, R198). -/
theorem runOver_noMoreFrames {frames : List RxFrame} (hne : frames ≠ []) (t : State) (c : Receiver)
    (n : Nat) (evs : List Input) :
    runOver (gotErr .timeout ++ evs) (t.issueRecv 64 n (frameKont c frames)) =
      runOver evs (deliverDecoded (t.recorded [recvErr 64 n .timeout]) c (decode9141 t frames)) := by
  obtain ⟨f, fs, rfl⟩ := List.exists_cons_of_ne_nil hne
  refine runOver_gotErr (fun e => ?_) evs
  have hdecode : decode9141 { t.recorded [recvErr 64 n .timeout] with estate := e } = decode9141 t :=
    decode9141_congr (t := t) rfl rfl
  refine (congrArg (deliverDecoded _ c) (congrFun hdecode (f :: fs))).trans ?_
  exact deliverDecoded_withEstate (t.recorded [recvErr 64 n .timeout]) e c _

end Sys2Proof.Machine
end

section

/-! ## The frames that the receivers accept and refuse, and ISO9141 messages -/

namespace Sys2Proof.Machine

open Claims

/-! ### The check byte (R199, R210) -/

/-- The check byte of a frame with the bytes `b` before it, unless the L0 device strips it. -/
def checkTail (s : State) (f : List Byte → Byte) (b : List Byte) : List Byte :=
  if s.l0Has .stripsL2Checksum then [] else [f b]

theorem checkTail_length (s : State) (f : List Byte → Byte) (b : List Byte) :
    (checkTail s f b).length = s.checkLen := by
  unfold checkTail State.checkLen
  split <;> rfl

theorem trailer_eq_checkLen (s : State) : trailer s = s.checkLen := rfl

/-- The check byte that a frame carries is right. -/
theorem checkTail_valid (s : State) (f : List Byte → Byte) (b : List Byte) :
    ¬(s.checkLen = 1 ∧ lastByteIs f (b ++ checkTail s f b) = false) := by
  rintro ⟨hlen, hlast⟩
  obtain ⟨x, hx⟩ := List.length_eq_one_iff.mp ((checkTail_length s f b).trans hlen)
  have htail : checkTail s f b = [f b] := by
    unfold checkTail at hx ⊢
    split at hx
    · cases hx
    · rename_i hs
      exact if_neg hs
  have hvalid : lastByteIs f (b ++ [f b]) = true := (lastByteIs_iff f _).mpr (by simp)
  rw [htail, hvalid] at hlast
  cases hlast

/-- The message of a frame: its payload, and source and destination from its header. -/
theorem strippedMsg_frame (a dest src : Byte) (pl tail : List Byte) (ts : Word) :
    strippedMsg tail.length ([a, dest, src] ++ pl ++ tail) ts = ⟨pl, src, dest, 0x7, ts⟩ := by
  have hbody : ([a, dest, src] ++ pl ++ tail).length - tail.length = ([a, dest, src] ++ pl).length := by
    rw [List.length_append, Nat.add_sub_cancel]
  rw [strippedMsg, hbody, List.take_left]
  rfl

/-- A frame with a payload is long enough. -/
theorem frame_long_enough (a dest src : Byte) {pl : List Byte} (hpl : pl ≠ []) (tail : List Byte) :
    ¬([a, dest, src] ++ pl ++ tail).length < 4 + tail.length := by
  have hpos := List.length_pos_of_ne_nil hpl
  simp only [List.length_append, List.length_cons, List.length_nil]
  omega

/-! ### One ISO9141 piece (R199) -/

theorem check9141_response (s : State) (src : Byte) {pl : List Byte} (hpl : pl ≠ []) (ts : Word) :
    check9141 s (response9141 s src pl) ts = some (message9141 src pl ts) := by
  have hframe : response9141 s src pl =
      [0x48, 0x6B, src] ++ pl ++ checkTail s checksum ([0x48, 0x6B, src] ++ pl) := rfl
  have hheader : ¬((response9141 s src pl).getD 0 0 ≠ 0x48 ∨ (response9141 s src pl).getD 1 0 ≠ 0x6B) :=
    fun h => h.elim (· rfl) (· rfl)
  rw [check9141, if_neg, if_neg hheader, if_neg]
  · rw [hframe, ← checkTail_length s checksum ([0x48, 0x6B, src] ++ pl), strippedMsg_frame]
    rfl
  · exact checkTail_valid s checksum _
  · rw [hframe, ← checkTail_length s checksum ([0x48, 0x6B, src] ++ pl)]
    exact frame_long_enough _ _ _ hpl _

theorem check9141_wrongChecksum {s : State} (hs : s.l0Has .stripsL2Checksum = false) {f : List Byte}
    {c : Byte} (hc : c ≠ checksum f) (ts : Word) : check9141 s (f ++ [c]) ts = none := by
  have hlen : s.checkLen = 1 := if_neg (Bool.eq_false_iff.mp hs)
  have hwrong : lastByteIs checksum (f ++ [c]) = false := by
    rw [← Bool.not_eq_true, lastByteIs_iff]
    simpa using hc
  simp only [check9141]
  split
  · rfl
  · split
    · rfl
    · exact if_pos ⟨hlen, hwrong⟩

/-- A frame that begins with two bytes of its header holds them. -/
theorem take_two_of_getD {f : List Byte} {a b : Byte} (hlen : 2 ≤ f.length) (ha : f.getD 0 0 = a)
    (hb : f.getD 1 0 = b) : f.take 2 = [a, b] := by
  obtain ⟨x, f, rfl⟩ := List.exists_cons_of_length_pos (Nat.lt_of_lt_of_le Nat.two_pos hlen)
  obtain ⟨y, f, rfl⟩ := List.exists_cons_of_length_pos (Nat.lt_of_succ_le (Nat.le_of_succ_le_succ hlen))
  exact congrArg₂ (fun x y => [x, y]) ha hb

theorem check9141_malformed {s : State} {f : List Byte}
    (h : f.take 2 ≠ [0x48, 0x6B] ∨ f.length < 4 + trailer s) (ts : Word) :
    check9141 s f ts = none := by
  by_cases hshort : f.length < 4 + s.checkLen
  · exact if_pos hshort
  · have hheader : f.getD 0 0 ≠ 0x48 ∨ f.getD 1 0 ≠ 0x6B := by
      by_contra hcon
      obtain ⟨ha, hb⟩ := not_or.mp hcon
      exact h.resolve_right hshort (take_two_of_getD (by omega) (not_not.mp ha) (not_not.mp hb))
    rw [check9141, if_neg hshort, if_pos hheader]

/-! ### The pieces of a frame, and the frames of a receive (R198) -/

theorem pieceLen_noSplit {s : State} {f : List Byte} (h : NoSplit s f) : pieceLen s f = f.length := by
  unfold pieceLen
  split
  · rename_i k hk
    exact if_neg (h k hk)
  · rfl

/-- A frame that is not split is one piece. -/
theorem splitFrame_noSplit {s : State} {f : List Byte} (h : NoSplit s f) (ts : Word) (fuel : Nat) :
    splitFrame s ts (fuel + 1) f = (check9141 s f ts).map ([·]) := by
  rw [splitFrame, pieceLen_noSplit h, List.take_length, List.drop_length]
  cases check9141 s f ts <;> rfl

theorem decode9141_noSplit {s : State} {f : RxFrame} (h : NoSplit s f.bytes) (fs : List RxFrame) :
    decode9141 s (f :: fs) =
      (check9141 s f.bytes f.ts).bind fun m => (decode9141 s fs).map (m :: ·) := by
  rw [decode9141, splitFrame_noSplit h]
  cases check9141 s f.bytes f.ts with
  | none => rfl
  | some m => cases decode9141 s fs <;> rfl

/-- A frame that FRAMELEN9141 cuts in two is two pieces. -/
theorem decode9141_split {s : State} {p q : List Byte} (hp : p ≠ []) (hq : q ≠ [])
    (hcut : frameLen9141 s (p ++ q) = some p.length) (h : NoSplit s q) (ts : Word) :
    decode9141 s [⟨p ++ q, ts⟩] =
      (check9141 s p ts).bind fun m => (check9141 s q ts).map fun m' => [m, m'] := by
  have hpos := List.length_pos_of_ne_nil hp
  have hposq := List.length_pos_of_ne_nil hq
  have hpiece : pieceLen s (p ++ q) = p.length := by
    simp only [pieceLen, hcut, List.length_append]
    exact if_pos (by omega)
  obtain ⟨fuel, hfuel⟩ : ∃ fuel, (p ++ q).length = fuel + 1 := by
    refine ⟨(p ++ q).length - 1, ?_⟩
    rw [List.length_append]
    omega
  simp only [decode9141, hfuel]
  rw [splitFrame, hpiece, List.take_left, List.drop_left, splitFrame_noSplit h]
  cases check9141 s p ts with
  | none => rfl
  | some m => cases check9141 s q ts <;> simp [hq]

end Sys2Proof.Machine
end

section

/-! ## RECV of ISO9141 messages -/

namespace Sys2Proof.Machine

open Claims

theorem tIb_of_le {s : State} (h : s.tp1max.toNat + 2 ≤ s.tp2min.toNat) :
    s.tIb = s.tp2min.toNat - 2 := by
  unfold State.tIb
  omega

theorem tIb_of_lt {s : State} (h : s.tp2min.toNat < s.tp1max.toNat + 2) : s.tIb = s.tp1max.toNat := by
  unfold State.tIb
  omega

section Recv

variable {s : State} (hl : s.link = .up) (hp : s.proto = some .iso9141)
include hl hp

theorem exec_recv_iso9141 {evs : List Input} (hin : s.inputs = evs) :
    exec .recv s =
      .next (runOver evs ((s.setRetries 0).issueRecv 64 s.timeout.toNat (frameKont .recv []))) := by
  refine exec_recv_reads hl ?_ hin
  simp only [beginReceive, setRetries_proto, hp]
  rfl

variable {cs : List (List Byte)} (hne : ∀ d ∈ cs, d ≠ []) (hmax : cs.flatten.length < 64) (hcs : cs ≠ [])
include hne hmax hcs

/-- RECV with one frame closed waits for more (R197). -/
theorem exec_recv_closed {evs : List Input}
    (hin : s.inputs = (cs.map got).flatten ++ (gotErr .timeout ++ evs)) :
    exec .recv s = .next (runOver evs
      (((s.setRetries 0).recorded (accumReads s.tIb .timeout s.timeout.toNat cs)).issueRecv 64
        (waitMore s) (frameKont .recv [⟨cs.flatten, s.now⟩]))) := by
  rw [exec_recv_iso9141 hl hp hin, runOver_frame_closed hne hmax hcs]
  rfl

/-- RECV of one frame decodes it when the wait for more has timed out (R197, R198). -/
theorem exec_recv_oneFrame {rest : List Input}
    (hin : s.inputs = (cs.map got).flatten ++ (gotErr .timeout ++ (gotErr .timeout ++ rest))) :
    exec .recv s = .next (runOver rest (deliverDecoded
      (((s.setRetries 0).recorded (accumReads s.tIb .timeout s.timeout.toNat cs)).recorded
        [recvErr 64 (waitMore s) .timeout]) .recv (decode9141 s [⟨cs.flatten, s.now⟩]))) := by
  rw [exec_recv_closed hl hp hne hmax hcs hin,
    runOver_noMoreFrames (List.cons_ne_nil _ _), decode9141_recorded, decode9141_setRetries]

/-- RECV of one frame that the decoder refuses is BadData, with nothing appended (R198). -/
theorem exec_recv_badFrame {rest : List Input}
    (hbad : decode9141 s [⟨cs.flatten, s.now⟩] = none)
    (hin : s.inputs = (cs.map got).flatten ++ (gotErr .timeout ++ (gotErr .timeout ++ rest))) :
    exec .recv s = .next
      { ended s .badData with
        retries := 0
        arb := .idle
        history := s.history ++ accumReads s.tIb .timeout s.timeout.toNat cs ++
          [recvErr 64 (waitMore s) .timeout]
        inputs := rest } := by
  rw [exec_recv_oneFrame hl hp hne hmax hcs hin, hbad, runOver_badData]
  rfl

end Recv

/-- Settles O40: T_ib by its two cases, and each frame by what its decoding gives. -/
theorem recvIso9141Message : Obligations.RecvIso9141Message := by
  refine fun s => ⟨tIb_of_le, tIb_of_lt, fun hl hp => ⟨?message, ?checksum, ?malformed, ?full, ?errors⟩⟩
  case message =>
    intro src pl chunks rest hpl hne hflat hlen hns hin
    have hcs : chunks ≠ [] := by
      rintro rfl
      exact List.cons_ne_nil _ _ hflat.symm
    simp only [List.append_assoc] at hin
    rw [exec_recv_oneFrame hl hp hne (hflat ▸ hlen) hcs hin, hflat, decode9141_noSplit hns,
      check9141_response s src hpl]
    exact congrArg Host.Outcome.next (runOver_deliver _ [message9141 src pl s.now] rest)
  case checksum =>
    intro f c rest hs hlen hc hns hin
    have hframe : [f ++ [c]].flatten = f ++ [c] := List.flatten_singleton
    have hfull : (f ++ [c]).length < 64 := by
      rw [List.length_append, List.length_singleton]
      omega
    refine exec_recv_badFrame (cs := [f ++ [c]]) hl hp (by simp) (by rwa [hframe]) (by simp) ?_
      (by simpa using hin)
    rw [hframe, decode9141_noSplit hns, check9141_wrongChecksum hs hc]
    rfl
  case malformed =>
    intro f rest hf hlen hns hbad hin
    have hframe : [f].flatten = f := List.flatten_singleton
    refine exec_recv_badFrame (cs := [f]) hl hp (by simpa using hf) (by rwa [hframe]) (by simp) ?_
      (by simpa using hin)
    rw [hframe, decode9141_noSplit hns, check9141_malformed hbad]
    rfl
  case full =>
    intro chunks rest hne hlen hin
    rw [exec_recv_iso9141 hl hp hin, runOver_frame_full hne hlen]
    rfl
  case errors =>
    refine fun chunks e rest hne hlen => ⟨fun h hin => ?_, fun hcs he hin => ?_⟩
    · rw [List.append_assoc] at hin
      rw [exec_recv_iso9141 hl hp hin, runOver_frame_fails hne hlen (h.imp_left (⟨·, rfl⟩))]
      rfl
    · simp only [List.append_assoc] at hin
      rw [exec_recv_closed hl hp hne hlen hcs hin,
        runOver_recv_fails fun v time => onRecv_frameKont_err (frames := [_]) (.inr he) v .recv time]
      simp only [State.recorded, ended, List.append_assoc]
      rfl

/-! ### Two frames -/

section TwoFrames

variable {s : State} {cs₁ cs₂ : List (List Byte)} {n : Nat} {rest : List Input} (hl : s.link = .up)
  (hp : s.proto = some .iso9141) (hne₁ : ∀ d ∈ cs₁, d ≠ []) (hmax₁ : cs₁.flatten.length < 64)
  (hcs₁ : cs₁ ≠ [])
include hl hp hne₁ hmax₁ hcs₁

/-- RECV in its wait for more, n ticks after its first frame (R197, R218). -/
theorem exec_recv_waiting
    (hin : s.inputs = (cs₁.map got).flatten ++ (gotErr .timeout ++ (List.replicate n .tick ++ rest))) :
    exec .recv s = .next (runOver rest
      ((((s.setRetries 0).later n).recorded
        (accumReads s.tIb .timeout s.timeout.toNat cs₁)).issueRecv 64 (waitMore s)
          (frameKont .recv [⟨cs₁.flatten, s.now⟩]))) := by
  rw [exec_recv_closed hl hp hne₁ hmax₁ hcs₁ hin, runOver_ticks_reading, recorded_later]

variable (hne₂ : ∀ d ∈ cs₂, d ≠ []) (hmax₂ : cs₂.flatten.length < 64)
include hne₂ hmax₂

/-- An error while the second frame accumulates ends RECV, and the first frame is lost (R196). -/
theorem exec_recv_secondFrame_fails {e : L0Err} (he : e ≠ .timeout)
    (hin : s.inputs = (cs₁.map got).flatten ++ (gotErr .timeout ++ (List.replicate n .tick ++
      ((cs₂.map got).flatten ++ (gotErr e ++ rest))))) :
    exec .recv s = .next
      { ended s e.toCode with
        retries := 0
        arb := .idle
        now := s.now + BitVec.ofNat 32 n
        history := s.history ++ accumReads s.tIb .timeout s.timeout.toNat cs₁ ++
          accumReads s.tIb e (waitMore s) cs₂
        inputs := rest } := by
  rw [exec_recv_waiting hl hp hne₁ hmax₁ hcs₁ hin, runOver_frame_fails hne₂ hmax₂ (.inr he),
    recorded_tIb, later_tIb, setRetries_tIb]
  simp only [ended, State.recorded, State.later, State.setRetries, BitVec.ofNat_eq_ofNat]

variable (hcs₂ : cs₂ ≠ [])
  (hin : s.inputs = (cs₁.map got).flatten ++ (gotErr .timeout ++ (List.replicate n .tick ++
    ((cs₂.map got).flatten ++ (gotErr .timeout ++ (gotErr .timeout ++ rest))))))
include hcs₂ hin

/-- RECV of two frames decodes both, each with the time of its own first read (R198, R218). -/
theorem exec_recv_twoFrames :
    exec .recv s = .next (runOver rest (deliverDecoded
      (((((s.setRetries 0).later n).recorded (accumReads s.tIb .timeout s.timeout.toNat cs₁)).recorded
        (accumReads s.tIb .timeout (waitMore s) cs₂)).recorded [recvErr 64 (waitMore s) .timeout]) .recv
      (decode9141 s [⟨cs₁.flatten, s.now⟩, ⟨cs₂.flatten, s.now + BitVec.ofNat 32 n⟩]))) := by
  rw [exec_recv_waiting hl hp hne₁ hmax₁ hcs₁ hin, runOver_frame_closed hne₂ hmax₂ hcs₂,
    List.singleton_append, runOver_noMoreFrames (List.cons_ne_nil _ _), decode9141_recorded,
    decode9141_recorded, decode9141_later, decode9141_setRetries]
  simp only [recorded_tIb, recorded_waitMore, recorded_now, later_tIb, later_waitMore, later_now,
    setRetries_tIb, setRetries_waitMore, setRetries_now]

theorem exec_recv_twoFrames_messages {msgs : List Message} (hfit : s.msgq.length + msgs.length ≤ 16)
    (hdecode : decode9141 s [⟨cs₁.flatten, s.now⟩, ⟨cs₂.flatten, s.now + BitVec.ofNat 32 n⟩] =
      some msgs) :
    exec .recv s = .next
      { ended s .ok with
        retries := 0
        msgq := s.msgq ++ msgs
        arb := .idle
        now := s.now + BitVec.ofNat 32 n
        history := s.history ++ accumReads s.tIb .timeout s.timeout.toNat cs₁ ++
          accumReads s.tIb .timeout (waitMore s) cs₂ ++ [recvErr 64 (waitMore s) .timeout]
        inputs := rest } := by
  rw [exec_recv_twoFrames hl hp hne₁ hmax₁ hcs₁ hne₂ hmax₂ hcs₂ hin, hdecode, deliverDecoded,
    runOver_deliver_fits]
  · simp only [ended, State.recorded, State.later, State.setRetries, BitVec.ofNat_eq_ofNat]
  · simpa only [recorded_msgq, later_msgq, setRetries_msgq] using hfit

/-- One frame that is refused discards the other too (R198). -/
theorem exec_recv_twoFrames_refused
    (hdecode : decode9141 s [⟨cs₁.flatten, s.now⟩, ⟨cs₂.flatten, s.now + BitVec.ofNat 32 n⟩] = none) :
    exec .recv s = .next
      { ended s .badData with
        retries := 0
        arb := .idle
        now := s.now + BitVec.ofNat 32 n
        history := s.history ++ accumReads s.tIb .timeout s.timeout.toNat cs₁ ++
          accumReads s.tIb .timeout (waitMore s) cs₂ ++ [recvErr 64 (waitMore s) .timeout]
        inputs := rest } := by
  rw [exec_recv_twoFrames hl hp hne₁ hmax₁ hcs₁ hne₂ hmax₂ hcs₂ hin, hdecode, runOver_badData]
  simp only [ended, State.recorded, State.later, State.setRetries, BitVec.ofNat_eq_ofNat]

end TwoFrames

/-- Settles O41: the two pieces of one frame, and the second of two frames in the wait for more. -/
theorem recvIso9141Split : Obligations.RecvIso9141Split := by
  intro s src₁ src₂ pl₁ pl₂ f₁ f₂ rest hl hp hpl₁ hf₁
  have hne₁ : f₁ ≠ [] := by
    rintro rfl
    cases hf₁
  have hone {f : List Byte} : [f].flatten = f := List.flatten_singleton
  refine ⟨fun hpl₂ hf₂ hlen hcut hns hroom hin => ?split,
    fun n hlen₁ hne₂ hlen₂ hns₁ hns₂ => ⟨fun hin => ?two, fun e he hin => ?error⟩⟩
  case split =>
    have hne₂ : f₂ ≠ [] := by
      rintro rfl
      cases hf₂
    have hdecode : decode9141 s [⟨f₁ ++ f₂, s.now⟩] =
        some [message9141 src₁ pl₁ s.now, message9141 src₂ pl₂ s.now] := by
      rw [decode9141_split hne₁ hne₂ hcut hns, hf₁, hf₂, check9141_response s src₁ hpl₁,
        check9141_response s src₂ hpl₂]
      rfl
    rw [exec_recv_oneFrame (cs := [f₁ ++ f₂]) hl hp (by simp [hne₁]) (by rwa [hone]) (by simp)
      (by simpa using hin), hone, hdecode]
    refine congrArg Host.Outcome.next (runOver_deliver_fits ?_ rest)
    exact Nat.add_le_add_right (Nat.le_of_lt_succ hroom) 2
  case two =>
    have hdecode (ts ts' : Word) : decode9141 s [⟨[f₁].flatten, ts⟩, ⟨[f₂].flatten, ts'⟩] =
        (check9141 s f₂ ts').map fun m => [message9141 src₁ pl₁ ts, m] := by
      rw [hone, hone, decode9141_noSplit hns₁, decode9141_noSplit hns₂, hf₁,
        check9141_response s src₁ hpl₁]
      cases check9141 s f₂ ts' <;> rfl
    refine ⟨fun hpl₂ hf₂ hroom => ?_, fun hbad => ?_⟩
    · have hcheck (ts : Word) : check9141 s f₂ ts = some (message9141 src₂ pl₂ ts) :=
        hf₂ ▸ check9141_response s src₂ hpl₂ ts
      refine exec_recv_twoFrames_messages (cs₁ := [f₁]) (cs₂ := [f₂]) hl hp (by simpa using hne₁)
        (by rwa [hone]) (by simp) (by simpa using hne₂) (by rwa [hone]) (by simp) (by simpa using hin)
        (Nat.add_le_add_right (Nat.le_of_lt_succ hroom) 2) ?_
      rw [hdecode, hcheck]
      rfl
    · refine exec_recv_twoFrames_refused (cs₁ := [f₁]) (cs₂ := [f₂]) hl hp (by simpa using hne₁)
        (by rwa [hone]) (by simp) (by simpa using hne₂) (by rwa [hone]) (by simp) (by simpa using hin) ?_
      rw [hdecode, check9141_malformed hbad, Option.map_none]
  case error =>
    exact exec_recv_secondFrame_fails (cs₁ := [f₁]) (cs₂ := [f₂]) hl hp (by simpa using hne₁)
      (by rwa [hone]) (by simp) (by simpa using hne₂) (by rwa [hone]) he (by simpa using hin)

end Sys2Proof.Machine
end

section

/-! ## A J1850 receive over its events -/

namespace Sys2Proof.Machine

open Claims

/-- A J1850 receive about to read its first frame with TIMEOUT, after k resends (R209, R212). -/
def reading1850 (t : State) (c : Receiver) (k : Nat) : State :=
  t.issueRecv 64 t.timeout.toNat (.rx1850 c [] k)

theorem decode1850_recorded (t : State) (es : List L0Event) :
    decode1850 (t.recorded es) = decode1850 t := decode1850_congr rfl

theorem decode1850_setRetries (t : State) (n : Nat) : decode1850 (t.setRetries n) = decode1850 t :=
  decode1850_congr rfl

section Reads

variable {t : State} {c : Receiver} {k : Nat}

theorem runOver_read1850 {frames : List RxFrame} {n : Nat} {d : List Byte} (hmin : 1 ≤ d.length)
    (hmax : d.length ≤ 64) (evs : List Input) :
    runOver (got d ++ evs) (t.issueRecv 64 n (.rx1850 c frames k)) =
      runOver evs ((t.recorded [dataEvent 64 n d]).issueRecv 64 t.tp3min.toNat
        (.rx1850 c (frames ++ [⟨d, t.now⟩]) k)) :=
  runOver_got (List.ne_nil_of_length_pos hmin) hmax (fun _ => rfl) evs

/-- The frames of a J1850 receive, one read each: the first with time-out n, the others with TP3MIN
(R209). -/
theorem runOver_reads1850 {frames : List RxFrame} {n : Nat} {ds : List (List Byte)}
    (hds : FullReads ds) (evs : List Input) :
    runOver ((ds.map got).flatten ++ evs) (t.issueRecv 64 n (.rx1850 c frames k)) =
      runOver evs ((t.recorded (reads1850 t.tp3min.toNat n ds)).issueRecv 64
        (if ds = [] then n else t.tp3min.toNat) (.rx1850 c (frames ++ ds.map (⟨·, t.now⟩)) k)) := by
  induction ds generalizing t frames n with
  | nil => simp [reads1850, State.recorded, State.issueRecv]
  | cons d ds ih =>
    obtain ⟨⟨hmin, hmax⟩, hds⟩ := List.forall_mem_cons.mp hds
    rw [List.map_cons, List.flatten_cons, List.append_assoc, runOver_read1850 hmin hmax, ih hds,
      recorded_recorded, recorded_tp3min, recorded_now, ite_self, if_neg (List.cons_ne_nil d ds),
      List.append_assoc]
    rfl

variable {ds : List (List Byte)} (hds : FullReads ds)
include hds

/-- A Timeout after frames: they are decoded and delivered, and RETRIES counts the resends (R209,
R214). -/
theorem runOver_frames1850 (hne : ds ≠ []) (evs : List Input) :
    runOver ((ds.map got).flatten ++ (gotErr .timeout ++ evs)) (reading1850 t c k) =
      runOver evs (deliverDecoded
        (((t.recorded (reads1850 t.tp3min.toNat t.timeout.toNat ds)).recorded
          [recvErr 64 t.tp3min.toNat .timeout]).setRetries k) c
        (decode1850 t (ds.map (⟨·, t.now⟩)))) := by
  have hframes : [] ++ ds.map (RxFrame.mk · t.now) ≠ [] := by simpa using hne
  rw [reading1850, runOver_reads1850 hds, if_neg hne,
    ← decode1850_recorded t (reads1850 t.tp3min.toNat t.timeout.toNat ds)]
  generalize t.recorded (reads1850 t.tp3min.toNat t.timeout.toNat ds) = v
  refine runOver_gotErr (fun e => ?_) evs
  have hdecode : decode1850 { v.recorded [recvErr 64 t.tp3min.toNat .timeout] with estate := e } =
      decode1850 v := decode1850_congr rfl
  refine (if_neg hframes).trans ((congrArg (deliverDecoded _ c) (congrFun hdecode _)).trans ?_)
  exact deliverDecoded_withEstate
    ((v.recorded [recvErr 64 t.tp3min.toNat .timeout]).setRetries k) e c _

/-- An IOError after any frames, or a Timeout after none, ends the receive (R209). -/
theorem runOver_frames1850_fails {e : L0Err} (he : e = .ioError ∨ e = .timeout ∧ ds = [])
    (rest : List Input) :
    runOver ((ds.map got).flatten ++ (gotErr e ++ rest)) (reading1850 t c k) =
      { ended (((t.recorded (reads1850 t.tp3min.toNat t.timeout.toNat ds)).recorded
          [last1850 t.tp3min.toNat t.timeout.toNat ds e]).setRetries k) e.toCode with
        inputs := rest } := by
  rw [reading1850, runOver_reads1850 hds]
  refine (runOver_gotErr (u := State.complete (State.setRetries (State.recorded _ _) k) e.toCode)
    (fun e' => ?_) rest).trans (runOver_complete _ _ rest)
  obtain rfl | ⟨rfl, rfl⟩ := he <;> rfl

/-- A bus error discards the frames, and the retry decides what follows (R209, R212). -/
theorem runOver_contention (evs : List Input) :
    runOver ((ds.map got).flatten ++ (gotErr .busError ++ evs)) (reading1850 t c k) =
      runOver evs (busRetry (t.recorded (lost1850 t ds)) c k) := by
  rw [reading1850, runOver_reads1850 hds, lost1850, ← recorded_recorded]
  exact runOver_gotErr (fun e => rfl) evs

end Reads

/-! ### The retries (R212) -/

section Retries

variable {t : State} {c : Receiver} {k : Nat} {f : List Byte}

theorem busRetry_resends (hf : t.lasttx = some f) (hk : k < 30) :
    busRetry t c k = t.issueAck (.send f) (.rx1850Resend c (k + 1)) := by
  have hbound : ¬k ≥ Config.busRetryMax := Nat.not_le.mpr hk
  simp only [busRetry, if_neg hbound, hf]

/-- The retry fails after 30 resends, and where nothing was sent. -/
theorem busRetry_fails (h : k = 30 ∨ t.lasttx = none) :
    busRetry t c k = (t.setRetries k).complete .busError := by
  unfold busRetry
  split
  · rfl
  · rename_i hk
    obtain rfl | hnone := h
    · exact absurd (Nat.le_refl 30) hk
    · rw [hnone]

/-- An error of a resend ends the receive, and RETRIES counts that resend (R212, R214). -/
theorem runOver_resend_fails {e : L0Err} (he : e ≠ .timeout) (rest : List Input) :
    runOver (gotErr e ++ rest) (t.issueAck (.send f) (.rx1850Resend c k)) =
      { ended ((t.recorded [errEvent (.send f) e]).setRetries k) e.toCode with inputs := rest } := by
  refine (runOver_ackErr rfl (send_mayFail he f) rest).trans ?_
  exact runOver_complete ((t.recorded [errEvent (.send f) e]).setRetries k) e.toCode rest

theorem resendEvents_recorded (t : State) (es : List L0Event) (f : List Byte)
    (rounds : List (List (List Byte))) :
    resendEvents (t.recorded es) f rounds = resendEvents t f rounds := rfl

variable (hf : t.lasttx = some f)
include hf

/-- One contention: the frames are lost, LASTTX is sent again, and reading starts anew (R212). -/
theorem runOver_resend {ds : List (List Byte)} (hds : FullReads ds) (hk : k < 30) (evs : List Input) :
    runOver ((ds.map got).flatten ++ (gotErr .busError ++ (acked ++ evs))) (reading1850 t c k) =
      runOver evs (reading1850 (t.recorded (lost1850 t ds ++ [okEvent (.send f)])) c (k + 1)) := by
  rw [runOver_contention hds, busRetry_resends (t := t.recorded _) hf hk, ← recorded_recorded]
  exact runOver_ok (s := State.issueAck _ (.send f) (.rx1850Resend c (k + 1))) rfl evs

/-- The contentions of a receive, each with its resend (R212). -/
theorem runOver_resends {rounds : List (List (List Byte))} (hr : ∀ r ∈ rounds, FullReads r)
    (hk : k + rounds.length ≤ 30) (evs : List Input) :
    runOver (resendScript rounds ++ evs) (reading1850 t c k) =
      runOver evs (reading1850 (t.recorded (resendEvents t f rounds)) c (k + rounds.length)) := by
  induction rounds generalizing t k with
  | nil => simp [resendScript, resendEvents, reading1850, State.recorded, State.issueRecv]
  | cons ds rounds ih =>
    obtain ⟨hds, hr⟩ := List.forall_mem_cons.mp hr
    rw [List.length_cons] at hk
    have hscript : resendScript (ds :: rounds) ++ evs =
        (ds.map got).flatten ++ (gotErr .busError ++ (acked ++ (resendScript rounds ++ evs))) := by
      simp [resendScript]
    have hevents : resendEvents t f (ds :: rounds) =
        (lost1850 t ds ++ [okEvent (.send f)]) ++ resendEvents t f rounds := rfl
    rw [hscript, runOver_resend hf hds (by omega), ih (t := t.recorded _) hf hr (by omega),
      recorded_recorded, resendEvents_recorded, hevents, List.length_cons, Nat.add_assoc, Nat.add_comm 1]

end Retries

end Sys2Proof.Machine
end

section

/-! ## RECV of J1850 frames, and bus contention -/

namespace Sys2Proof.Machine

open Claims

/-! ### The decoder (R210) -/

theorem check1850_frame (s : State) {f : Frame1850} (hpl : f.payload ≠ []) (ts : Word) :
    check1850 s ⟨f.bytes s, ts⟩ = some (f.message ts) := by
  have hframe : f.bytes s = [f.fmt, f.dest, f.src] ++ f.payload ++
      checkTail s crc8 ([f.fmt, f.dest, f.src] ++ f.payload) := rfl
  rw [check1850, if_neg, if_neg]
  · rw [hframe, ← checkTail_length s crc8 ([f.fmt, f.dest, f.src] ++ f.payload), strippedMsg_frame]
    rfl
  · exact checkTail_valid s crc8 _
  · rw [hframe, ← checkTail_length s crc8 ([f.fmt, f.dest, f.src] ++ f.payload)]
    exact frame_long_enough _ _ _ hpl _

theorem check1850_refused {s : State} {d : List Byte}
    (h : d.length < 4 + trailer s ∨
      (s.l0flags.getLsbD 2 = false ∧ d.getLast? ≠ some (crc8 d.dropLast))) (ts : Word) :
    check1850 s ⟨d, ts⟩ = none := by
  obtain hshort | ⟨hs, hwrong⟩ := h
  · exact if_pos hshort
  · have hlen : s.checkLen = 1 := if_neg (Bool.eq_false_iff.mp hs)
    have hlast : lastByteIs crc8 d = false := by
      unfold lastByteIs
      split
      · rename_i x hx
        simpa [hx] using hwrong
      · rfl
    simp only [check1850]
    split
    · rfl
    · exact if_pos ⟨hlen, hlast⟩

theorem decode1850_frames (s : State) {fs : List Frame1850} (hpl : ∀ f ∈ fs, f.payload ≠ [])
    (ts : Word) :
    decode1850 s ((fs.map (Frame1850.bytes s)).map (⟨·, ts⟩)) = some (fs.map (·.message ts)) := by
  induction fs with
  | nil => rfl
  | cons f fs ih =>
    obtain ⟨hf, hfs⟩ := List.forall_mem_cons.mp hpl
    simp only [List.map_cons, decode1850, check1850_frame s hf, ih hfs]

theorem decode1850_refused {s : State} {frames : List RxFrame} {f : RxFrame} (hf : f ∈ frames)
    (h : check1850 s f = none) : decode1850 s frames = none := by
  induction frames with
  | nil => cases hf
  | cons g gs ih =>
    obtain rfl | hgs := List.mem_cons.mp hf
    · simp only [decode1850, h]
    · simp only [decode1850, ih hgs]
      cases check1850 s g <;> rfl

/-- The frames that a read of 64 bytes can hold are reads of 1 to 64 bytes. -/
theorem fullReads_frames {s : State} {fs : List Frame1850}
    (hfs : ∀ f ∈ fs, f.payload ≠ [] ∧ (f.bytes s).length ≤ 64) :
    FullReads (fs.map (Frame1850.bytes s)) := by
  intro d hd
  obtain ⟨f, hf, rfl⟩ := List.mem_map.mp hd
  exact ⟨Nat.succ_le_of_lt (Nat.zero_lt_succ _), (hfs f hf).2⟩

theorem script_frames (s : State) (fs : List Frame1850) :
    (fs.map fun f => got (f.bytes s)).flatten = ((fs.map (Frame1850.bytes s)).map got).flatten := by
  rw [List.map_map]
  rfl

/-! ### RECV after any number of contentions -/

section Recv

variable {s : State} {evs rest : List Input} (hl : s.link = .up) (hp : s.proto = some .j1850)
  (hcap : s.l0Has .doesL2Frame = true)
include hl hp hcap

theorem exec_recv_j1850 (hin : s.inputs = evs) :
    exec .recv s = .next (runOver evs (reading1850 (s.setRetries 0) .recv 0)) := by
  refine exec_recv_reads hl ?_ hin
  simp only [beginReceive, setRetries_proto, hp, setRetries_l0Has, hcap, if_true]
  rfl

/-- RECV after the resends of `rounds`, LASTTX being f: as many as it counts (R212). -/
theorem exec_recv_resent {f : List Byte} {rounds : List (List (List Byte))}
    (hf : rounds = [] ∨ s.lasttx = some f) (hr : ∀ r ∈ rounds, FullReads r)
    (hk : rounds.length ≤ 30) (hin : s.inputs = resendScript rounds ++ evs) :
    exec .recv s = .next (runOver evs
      (reading1850 ((s.setRetries 0).recorded (resendEvents s f rounds)) .recv rounds.length)) := by
  rw [exec_recv_j1850 hl hp hcap hin]
  obtain rfl | hf := hf
  · simp [resendScript, resendEvents, reading1850, State.recorded, State.issueRecv]
  · rw [runOver_resends (t := s.setRetries 0) hf hr (by omega), Nat.zero_add]
    rfl

end Recv

/-- What RECV leaves of s, apart from MSGQ, where it ends with e after k resends, the operations `es`
recorded and the events `rest` still to come (R209, R214). -/
def ended1850 (s : State) (e : ErrCode) (k : Nat) (es : List L0Event) (rest : List Input) : State :=
  { ended s e with
    retries := BitVec.ofNat 8 k
    arb := .idle
    history := s.history ++ es
    inputs := rest }

theorem ended1850_eq (s : State) (e : ErrCode) (k : Nat) (es : List L0Event) (rest : List Input) :
    { ended (((s.setRetries 0).recorded es).setRetries k) e with inputs := rest } =
      ended1850 s e k es rest := by
  simp only [ended, State.recorded, State.setRetries, ended1850]

section Ends

variable {s : State} {f : List Byte} {rounds : List (List (List Byte))} {rest : List Input}
  (hl : s.link = .up) (hp : s.proto = some .j1850) (hcap : s.l0Has .doesL2Frame = true)
  (hf : rounds = [] ∨ s.lasttx = some f) (hr : ∀ r ∈ rounds, FullReads r) (hk : rounds.length ≤ 30)
include hl hp hcap hf hr hk

theorem exec_recv_frames {ds : List (List Byte)} (hds : FullReads ds) (hne : ds ≠ [])
    (hin : s.inputs =
      resendScript rounds ++ ((ds.map got).flatten ++ (gotErr .timeout ++ rest))) :
    exec .recv s = .next (runOver rest (deliverDecoded
      (((s.setRetries 0).recorded (resendEvents s f rounds ++
        (reads1850 s.tp3min.toNat s.timeout.toNat ds ++
          [recvErr 64 s.tp3min.toNat .timeout]))).setRetries rounds.length) .recv
      (decode1850 s (ds.map (⟨·, s.now⟩))))) := by
  rw [exec_recv_resent hl hp hcap hf hr hk hin, runOver_frames1850 hds hne, recorded_recorded,
    recorded_recorded, decode1850_recorded, decode1850_setRetries]
  rfl

/-- RECV of frames with a payload each delivers their messages, all or none (R210, R217). -/
theorem exec_recv_messages {fs : List Frame1850}
    (hfs : ∀ g ∈ fs, g.payload ≠ [] ∧ (g.bytes s).length ≤ 64) (hne : fs ≠ [])
    (hin : s.inputs = resendScript rounds ++
      ((fs.map fun g => got (g.bytes s)).flatten ++ (gotErr .timeout ++ rest))) :
    exec .recv s = .next
      { ended1850 s (if s.msgq.length + fs.length ≤ 16 then .ok else .noMemory) rounds.length
          (resendEvents s f rounds ++
            (reads1850 s.tp3min.toNat s.timeout.toNat (fs.map (Frame1850.bytes s)) ++
              [recvErr 64 s.tp3min.toNat .timeout])) rest with
        msgq := s.msgq ++
          (if s.msgq.length + fs.length ≤ 16 then fs.map fun g => g.message s.now else []) } := by
  rw [script_frames] at hin
  rw [exec_recv_frames hl hp hcap hf hr hk (fullReads_frames hfs) (by simpa using hne) hin,
    decode1850_frames s (fun g hg => (hfs g hg).1), deliverDecoded, runOver_deliver,
    setRetries_msgq, recorded_msgq, setRetries_msgq, List.length_map]
  simp only [ended1850, ended, State.recorded, State.setRetries]

theorem exec_recv_1850_fails {ds : List (List Byte)} (hds : FullReads ds) {e : L0Err}
    (he : e = .ioError ∨ e = .timeout ∧ ds = [])
    (hin : s.inputs = resendScript rounds ++ ((ds.map got).flatten ++ (gotErr e ++ rest))) :
    exec .recv s = .next (ended1850 s e.toCode rounds.length (resendEvents s f rounds ++
      (reads1850 s.tp3min.toNat s.timeout.toNat ds ++
        [last1850 s.tp3min.toNat s.timeout.toNat ds e])) rest) := by
  rw [exec_recv_resent hl hp hcap hf hr hk hin, runOver_frames1850_fails hds he, recorded_recorded,
    recorded_recorded, ← ended1850_eq]
  rfl

theorem exec_recv_contention {ds : List (List Byte)} (hds : FullReads ds) {evs : List Input}
    (hin : s.inputs = resendScript rounds ++ ((ds.map got).flatten ++ (gotErr .busError ++ evs))) :
    exec .recv s = .next (runOver evs (busRetry ((s.setRetries 0).recorded
      (resendEvents s f rounds ++ lost1850 s ds)) .recv rounds.length)) := by
  rw [exec_recv_resent hl hp hcap hf hr hk hin, runOver_contention hds, recorded_recorded]
  rfl

end Ends

end Sys2Proof.Machine
end

section

/-! ## The J1850 statements -/

namespace Sys2Proof.Machine

open Claims

/-- A receive without contention is one without resends. -/
theorem resendEvents_nil (s : State) (f : List Byte) : resendEvents s f [] = [] := rfl

/-- Settles O42: a receive without contention, by what its frames decode to and by its error. -/
theorem recvJ1850Frames : Obligations.RecvJ1850Frames := by
  refine ⟨fun s fs rest hl hp hcap hne hfs hin => ?_,
    fun s ds bad rest hl hp hcap hds hmem hbad hin => ?_,
    fun s ds e rest hl hp hcap hds he hin => ?_⟩
  · rw [exec_recv_messages (f := []) (rounds := []) (rest := rest) hl hp hcap (.inl rfl)
      nofun (Nat.zero_le 30) hfs hne (by rw [hin, List.append_assoc]; rfl)]
    simp only [ended1850, ended, resendEvents_nil, List.nil_append, List.append_assoc, List.length_nil,
      BitVec.ofNat_eq_ofNat]
  · have hnone : decode1850 s (ds.map (⟨·, s.now⟩)) = none :=
      decode1850_refused (List.mem_map.mpr ⟨bad, hmem, rfl⟩) (check1850_refused hbad s.now)
    rw [exec_recv_frames (f := []) (rounds := []) (rest := rest) hl hp hcap (.inl rfl)
      nofun (Nat.zero_le 30) hds (List.ne_nil_of_mem hmem)
      (by rw [hin, List.append_assoc]; rfl), hnone, runOver_badData, ended1850_eq]
    simp only [ended1850, ended, resendEvents_nil, List.nil_append, List.append_assoc, List.length_nil,
      BitVec.ofNat_eq_ofNat]
  · rw [exec_recv_1850_fails (f := []) (rounds := []) (rest := rest) hl hp hcap (.inl rfl)
      nofun (Nat.zero_le 30) hds he (by rw [hin, List.append_assoc]; rfl)]
    simp only [ended1850, ended, resendEvents_nil, List.nil_append, List.append_assoc, List.length_nil,
      BitVec.ofNat_eq_ofNat]

/-- Settles O43: the resends first, then each way the receive can end. -/
theorem busContentionBound : Obligations.BusContentionBound := by
  refine fun s ds rest hl hp hcap hds => ⟨fun f rounds hf hk hr =>
    ⟨fun fs hne hfs hfit hin => ?messages, fun e he hin => ?error, fun e hlt he hin => ?resend,
      fun hbound hin => ?bound⟩, fun hnone hin => ?nothingSent⟩
  case messages =>
    rw [exec_recv_messages (rest := rest) hl hp hcap (.inr hf) hr hk hfs hne
      (by simpa only [List.append_assoc] using hin), if_pos hfit, if_pos hfit]
    simp only [ended1850, ended, List.append_assoc]
  case error =>
    rw [exec_recv_1850_fails (rest := rest) hl hp hcap (.inr hf) hr hk hds he
      (by simpa only [List.append_assoc] using hin)]
    simp only [ended1850, ended, List.append_assoc]
  case resend =>
    rw [exec_recv_contention hl hp hcap (.inr hf) hr hk hds
      (by simpa only [List.append_assoc] using hin),
      busRetry_resends (t := (s.setRetries 0).recorded _) hf hlt,
      runOver_resend_fails he, recorded_recorded, ended1850_eq]
    simp only [ended1850, ended, List.append_assoc]
  case bound =>
    rw [exec_recv_contention hl hp hcap (.inr hf) hr hk hds
      (by simpa only [List.append_assoc] using hin), busRetry_fails (.inl hbound),
      runOver_complete, hbound]
    simp only [ended, State.complete, State.recorded, State.setRetries, List.append_assoc]
    rfl
  case nothingSent =>
    rw [exec_recv_contention (f := []) (rounds := []) hl hp hcap (.inl rfl) nofun (Nat.zero_le 30) hds
      (by rw [hin, List.append_assoc]; rfl),
      busRetry_fails (t := (s.setRetries 0).recorded _) (.inr hnone), runOver_complete]
    simp only [ended, State.complete, State.recorded, State.setRetries, resendEvents_nil,
      List.nil_append, List.length_nil, BitVec.ofNat_eq_ofNat]

end Sys2Proof.Machine
end

section

/-! ## Two runs side by side

A command that ends as another one does takes the same events: its sub-states are those of the other with
the name of the command changed, and only the registers that the two write differently differ. -/

namespace Sys2Proof.Machine

/-- Two sub-states that differ in their continuations only, as `A` and `K` say. -/
inductive EState.Alike (A : AckKont → AckKont → Prop) (K : RecvKont → RecvKont → Prop) :
    EState → EState → Prop where
  | awaitAck (op : AckOp) {k k' : AckKont} : A k k' → Alike A K (.awaitAck op k) (.awaitAck op k')
  | awaitRecv (m n : Nat) {k k' : RecvKont} :
    K k k' → Alike A K (.awaitRecv m n k) (.awaitRecv m n k')
  | answeredAck (r : Option L0Err) {k k' : AckKont} :
    A k k' → Alike A K (.answeredAck r k) (.answeredAck r k')
  | answeredRecv (r : RecvResult) (time : Word) {k k' : RecvKont} :
    K k k' → Alike A K (.answeredRecv r time k) (.answeredRecv r time k')

/-- t with its queue changed by q, its RETRIES by r, and the engine in the state e. -/
def State.beside (t : State) (q : List Message → List Message) (r : Byte → Byte) (e : EState) : State :=
  { t with estate := e, msgq := q t.msgq, retries := r t.retries }

/-- u runs beside t, or both have ended, and `E` says how u did where t did. -/
def Beside (A : AckKont → AckKont → Prop) (K : RecvKont → RecvKont → Prop)
    (q : List Message → List Message) (r : Byte → Byte) (E : State → State → Prop) (t u : State) : Prop :=
  (∃ e, t.estate.Alike A K e ∧ u = t.beside q r e) ∨
    t.estate = .idle ∧ u.estate = .idle ∧ E t u

section Run

variable {A : AckKont → AckKont → Prop} {K : RecvKont → RecvKont → Prop}
  {q : List Message → List Message} {r : Byte → Byte} {E : State → State → Prop}

theorem EState.Alike.running {e e' : EState} (h : e.Alike A K e') :
    e.running = true ∧ e'.running = true := by
  cases h <;> exact ⟨rfl, rfl⟩

/-- Both take the same answer. -/
theorem Beside.answer {t : State} {e : EState} (h : t.estate.Alike A K e) (a : L0Answer) :
    Beside A K q r E (t.answer a) ((t.beside q r e).answer a) := by
  obtain ⟨e₀, he⟩ : ∃ e₀, t.estate = e₀ := ⟨_, rfl⟩
  have stays : Beside A K q r E t (t.beside q r e) := .inl ⟨e, h, rfl⟩
  have heb : (t.beside q r e).estate = e := rfl
  rw [he] at h
  cases h with
  | awaitAck op hk =>
    cases a with
    | ok =>
      simp only [State.answer, he, heb]
      exact .inl ⟨_, .answeredAck none hk, rfl⟩
    | err l =>
      simp only [State.answer, he, heb]
      split
      · exact .inl ⟨_, .answeredAck (some l) hk, rfl⟩
      · exact stays
    | data | flags => simpa only [State.answer, he, heb] using stays
  | awaitRecv m n hk =>
    cases a with
    | data d =>
      simp only [State.answer, he, heb]
      split
      · exact .inl ⟨_, .answeredRecv (.data d) t.now hk, rfl⟩
      · exact stays
    | err l =>
      simp only [State.answer, he, heb]
      exact .inl ⟨_, .answeredRecv (.err l) t.now hk, rfl⟩
    | ok | flags => simpa only [State.answer, he, heb] using stays
  | answeredAck | answeredRecv => simpa only [State.answer, he, heb] using stays

theorem Beside.withInputs
    (hin : ∀ t u evs, E t u → E { t with inputs := evs } { u with inputs := evs }) {t u : State}
    (h : Beside A K q r E t u) (evs : List Input) :
    Beside A K q r E { t with inputs := evs } { u with inputs := evs } := by
  obtain ⟨e, he, rfl⟩ | ⟨ht, hu, hE⟩ := h
  · exact .inl ⟨e, he, rfl⟩
  · exact .inr ⟨ht, hu, hin _ _ _ hE⟩

variable
  (hack : ∀ t e res k k', A k k' → Beside A K q r E (onAck t res k) (onAck (t.beside q r e) res k'))
  (hrecv : ∀ t e res time k k', K k k' →
    Beside A K q r E (onRecv t res time k) (onRecv (t.beside q r e) res time k'))
include hack hrecv

/-- Both act on the same answer. -/
theorem Beside.act {t : State} {e : EState} (h : t.estate.Alike A K e) :
    Beside A K q r E (act t) (act (t.beside q r e)) := by
  obtain ⟨e₀, he⟩ : ∃ e₀, t.estate = e₀ := ⟨_, rfl⟩
  have stays : Beside A K q r E t (t.beside q r e) := .inl ⟨e, h, rfl⟩
  have heb : (t.beside q r e).estate = e := rfl
  rw [he] at h
  cases h with
  | awaitAck | awaitRecv => simpa only [Machine.act, he, heb] using stays
  | answeredAck res hk =>
    simp only [Machine.act, he, heb]
    exact hack _ _ _ _ _ hk
  | answeredRecv res time hk =>
    simp only [Machine.act, he, heb]
    exact hrecv _ _ _ _ _ _ hk

variable (hin : ∀ t u evs, E t u → E { t with inputs := evs } { u with inputs := evs })
include hin

/-- What begins side by side stays so over any events. -/
theorem Beside.run {t u : State} (h : Beside A K q r E t u) (evs : List Input) :
    Beside A K q r E (runOver evs t) (runOver evs u) := by
  induction evs generalizing t u with
  | nil => exact h.withInputs hin []
  | cons ev rest ih =>
    obtain ⟨e, he, rfl⟩ | ⟨ht, hu, hE⟩ := h
    · obtain ⟨hrun, hrun'⟩ := he.running
      have hrunb : (t.beside q r e).estate.running = true := hrun'
      cases ev with
      | tick =>
        rw [runOver_cons hrun rfl, runOver_cons hrunb rfl]
        exact ih (.inl ⟨e, he, rfl⟩)
      | answer a =>
        rw [runOver_cons hrun rfl, runOver_cons hrunb rfl]
        exact ih (.answer he a)
      | engine =>
        rw [runOver_cons hrun rfl, runOver_cons hrunb rfl]
        exact ih (.act hack hrecv he)
      | reset | hostRead | hostWrite =>
        rw [runOver_suspended rfl, runOver_suspended rfl]
        exact .inl ⟨e, he, rfl⟩
    · rw [runOver_of_not_running (by rw [ht]; rfl), runOver_of_not_running (by rw [hu]; rfl)]
      exact .inr ⟨ht, hu, hin _ _ _ hE⟩

end Run

/-! ### Events to come -/

/-- A run does not look at the events that its state lists. -/
theorem runOver_withInputs (evs evs' : List Input) (s : State) :
    runOver evs (s.withInputs evs') = runOver evs s := by
  induction evs generalizing s with
  | nil => rfl
  | cons ev rest ih =>
    cases hr : s.estate.running with
    | false =>
      rw [runOver_of_not_running (s := s.withInputs evs') hr, runOver_of_not_running hr]
      rfl
    | true =>
      have hr' : (s.withInputs evs').estate.running = true := hr
      cases ev with
      | tick =>
        rw [runOver_cons hr' rfl, runOver_cons hr rfl]
        exact ih s.tick
      | answer a =>
        rw [runOver_cons hr' rfl, runOver_cons hr rfl]
        exact (congrArg (runOver rest) (answer_ignoresInputs a s evs')).trans (ih _)
      | engine =>
        rw [runOver_cons hr' rfl, runOver_cons hr rfl]
        exact (congrArg (runOver rest) (act_ignoresInputs s evs')).trans (ih _)
      | reset | hostRead | hostWrite =>
        rw [runOver_suspended rfl, runOver_suspended rfl]
        rfl

end Sys2Proof.Machine
end

section

/-! ## Every receive is a RECV, up to what it does with its messages -/

namespace Sys2Proof.Machine

/-- The resend of RECV, and of the receiver c (R212). -/
inductive ResendAlike (c : Receiver) : AckKont → AckKont → Prop where
  | resend (n : Nat) : ResendAlike c (.rx1850Resend .recv n) (.rx1850Resend c n)

/-- The reads of RECV, and of the receiver c (R190, R215, R251, R260). -/
inductive ReadAlike (c : Receiver) : RecvKont → RecvKont → Prop where
  | waitFirst : ReadAlike c (.rxWaitFirst .recv) (.rxWaitFirst c)
  | accum (frames : List RxFrame) (cur : List Byte) (ts : Word) :
    ReadAlike c (.rxAccum .recv frames cur ts) (.rxAccum c frames cur ts)
  | waitMore (frames : List RxFrame) : ReadAlike c (.rxWaitMore .recv frames) (.rxWaitMore c frames)
  | raw : ReadAlike c (.rxRaw .recv) (.rxRaw c)
  | j1850 (frames : List RxFrame) (n : Nat) : ReadAlike c (.rx1850 .recv frames n) (.rx1850 c frames n)

/-- The queue beside RECV's own: the keepalive, which appends nothing, has the queue l throughout
(R260). -/
def Receiver.queue (c : Receiver) (l own : List Message) : List Message :=
  match c with
  | .recv => own
  | .request => own
  | .l3Framed => own
  | .keepalive => l

/-- How the receiver c ends in u where RECV ends in t: REQUEST as RECV (R215), framed L3_RECV with the idle
time reset on success (R251), and the keepalive with its own queue, whose room does not matter (R260). -/
def Receiver.Ends (c : Receiver) (l : List Message) (t u : State) : Prop :=
  match c with
  | .recv => u = t
  | .request => u = t
  | .l3Framed => u = if t.err = .ok then { t with l3idle := t.now } else t
  | .keepalive => t.err ≠ .noMemory → u = { t with msgq := l }

theorem Receiver.Ends.withInputs {c : Receiver} {l : List Message} {t u : State} (h : c.Ends l t u)
    (evs : List Input) : c.Ends l { t with inputs := evs } { u with inputs := evs } := by
  cases c with
  | recv | request => exact congrArg (State.withInputs evs) h
  | l3Framed =>
    refine (congrArg (State.withInputs evs) h).trans ?_
    exact apply_ite (State.withInputs evs) _ _ _
  | keepalive => exact fun herr => congrArg (State.withInputs evs) (h herr)

/-- The receiver c beside RECV. -/
abbrev Follows (c : Receiver) (l : List Message) : State → State → Prop :=
  Beside (ResendAlike c) (ReadAlike c) (c.queue l) id (c.Ends l)

section Follows

variable (c : Receiver) (l : List Message) (t : State) (e : EState)

/-- A failure is reported by every receiver. -/
theorem complete_follows {err : ErrCode} (herr : err ≠ .ok) :
    Follows c l (t.complete err) ((t.beside (c.queue l) id e).complete err) := by
  refine .inr ⟨rfl, rfl, ?_⟩
  cases c with
  | recv | request => rfl
  | l3Framed => exact (if_neg herr).symm
  | keepalive => exact fun _ => rfl

theorem deliver_estate (msgs : List Message) : (deliver t c msgs).estate = .idle := by
  cases c with
  | recv | request | l3Framed =>
    simp only [deliver]
    cases t.appendMsgs msgs <;> rfl
  | keepalive => rfl

/-- The messages are appended by every receiver but the keepalive. -/
theorem deliver_follows (msgs : List Message) :
    Follows c l (deliver t .recv msgs) (deliver (t.beside (c.queue l) id e) c msgs) := by
  refine .inr ⟨deliver_estate _ _ _, deliver_estate _ _ _, ?_⟩
  cases c with
  | recv | request => exact deliver_withEstate t e .recv msgs
  | l3Framed =>
    refine (deliver_withEstate t e .l3Framed msgs).trans ?_
    cases happ : t.appendMsgs msgs with
    | some s' =>
      have hrecv : deliver t .recv msgs = s'.complete .ok := by simp only [deliver, happ]
      have hframed : deliver t .l3Framed msgs = { s' with l3idle := s'.now }.complete .ok := by
        simp only [deliver, happ]
      rw [hframed, hrecv]
      exact (if_pos rfl).symm
    | none =>
      have hrecv : deliver t .recv msgs = t.complete .noMemory := by simp only [deliver, happ]
      have hframed : deliver t .l3Framed msgs = t.complete .noMemory := by simp only [deliver, happ]
      rw [hframed, hrecv]
      exact (if_neg nofun).symm
  | keepalive =>
    simp only [deliver]
    cases happ : t.appendMsgs msgs with
    | some s' =>
      obtain ⟨-, rfl⟩ := appendMsgs_eq_some.mp happ
      exact fun _ => rfl
    | none => exact fun hok => absurd rfl hok

theorem deliverDecoded_follows (o : Option (List Message)) :
    Follows c l (deliverDecoded t .recv o) (deliverDecoded (t.beside (c.queue l) id e) c o) := by
  cases o with
  | some msgs => exact deliver_follows c l t e msgs
  | none => exact complete_follows c l t e nofun

theorem issueRecv_follows (m n : Nat) {k k' : RecvKont} (hk : ReadAlike c k k') :
    Follows c l (t.issueRecv m n k) ((t.beside (c.queue l) id e).issueRecv m n k') :=
  .inl ⟨_, .awaitRecv m n hk, rfl⟩

/-! ### The sub-states of a receive -/

theorem enterAccum_follows (frames : List RxFrame) (cur : List Byte) (ts : Word) :
    Follows c l (enterAccum t .recv frames cur ts)
      (enterAccum (t.beside (c.queue l) id e) c frames cur ts) := by
  unfold enterAccum
  split
  · exact complete_follows c l t e nofun
  · exact issueRecv_follows c l t e _ _ (.accum frames cur ts)

theorem onRxWaitFirst_follows (time : Word) (r : RecvResult) :
    Follows c l (onRxWaitFirst t .recv time r)
      (onRxWaitFirst (t.beside (c.queue l) id e) c time r) := by
  cases r with
  | data d => exact enterAccum_follows c l t e [] d time
  | err err => exact complete_follows c l t e (toCode_ne_ok err)

theorem onRxAccum_follows (frames : List RxFrame) (cur : List Byte) (ts : Word) (r : RecvResult) :
    Follows c l (onRxAccum t .recv frames cur ts r)
      (onRxAccum (t.beside (c.queue l) id e) c frames cur ts r) := by
  rcases r with d | err
  · exact enterAccum_follows c l t e frames (cur ++ d) ts
  · cases err with
    | timeout => exact issueRecv_follows c l t e _ _ (.waitMore _)
    | busError | ioError => exact complete_follows c l t e nofun

theorem onRxWaitMore_follows (frames : List RxFrame) (time : Word) (r : RecvResult) :
    Follows c l (onRxWaitMore t .recv frames time r)
      (onRxWaitMore (t.beside (c.queue l) id e) c frames time r) := by
  rcases r with d | err
  · exact enterAccum_follows c l t e frames d time
  · cases err with
    | timeout =>
      have hdecode : decode9141 (t.beside (c.queue l) id e) = decode9141 t :=
        decode9141_congr rfl rfl
      simp only [onRxWaitMore, hdecode]
      exact deliverDecoded_follows c l t e _
    | busError | ioError => exact complete_follows c l t e nofun

theorem onRxRaw_follows (time : Word) (r : RecvResult) :
    Follows c l (onRxRaw t .recv time r) (onRxRaw (t.beside (c.queue l) id e) c time r) := by
  cases r with
  | data d => exact deliver_follows c l t e _
  | err err => exact complete_follows c l t e (toCode_ne_ok err)

theorem setRetries_beside (q : List Message → List Message) (n : Nat) :
    (t.beside q id e).setRetries n = (t.setRetries n).beside q id e := rfl

theorem busRetry_follows (n : Nat) :
    Follows c l (busRetry t .recv n) (busRetry (t.beside (c.queue l) id e) c n) := by
  have hlast : (t.beside (c.queue l) id e).lasttx = t.lasttx := rfl
  simp only [busRetry, hlast, setRetries_beside]
  split
  · exact complete_follows c l (t.setRetries n) e nofun
  · cases t.lasttx with
    | none => exact complete_follows c l (t.setRetries n) e nofun
    | some f => exact .inl ⟨_, .awaitAck (.send f) (.resend (n + 1)), rfl⟩

theorem onRx1850_follows (frames : List RxFrame) (n : Nat) (time : Word) (r : RecvResult) :
    Follows c l (onRx1850 t .recv frames n time r)
      (onRx1850 (t.beside (c.queue l) id e) c frames n time r) := by
  rcases r with d | err
  · exact issueRecv_follows c l t e _ _ (.j1850 _ n)
  · cases err with
    | timeout =>
      have hdecode : decode1850 (t.beside (c.queue l) id e) = decode1850 t := decode1850_congr rfl
      simp only [onRx1850, hdecode, setRetries_beside]
      split
      · exact complete_follows c l (t.setRetries n) e nofun
      · exact deliverDecoded_follows c l (t.setRetries n) e _
    | busError => exact busRetry_follows c l t e n
    | ioError => exact complete_follows c l (t.setRetries n) e nofun

theorem onRx1850Resend_follows (n : Nat) (r : Option L0Err) :
    Follows c l (onRx1850Resend t .recv n r) (onRx1850Resend (t.beside (c.queue l) id e) c n r) := by
  cases r with
  | none => exact issueRecv_follows c l t e _ _ (.j1850 [] n)
  | some err => exact complete_follows c l (t.setRetries n) e (toCode_ne_ok err)

theorem beginReceive_follows :
    Follows c l (beginReceive t .recv) (beginReceive (t.beside (c.queue l) id e) c) := by
  have hproto : (t.beside (c.queue l) id e).proto = t.proto := rfl
  have hcap : (t.beside (c.queue l) id e).l0Has .doesL2Frame = t.l0Has .doesL2Frame := rfl
  simp only [beginReceive, hproto, hcap]
  split
  · exact issueRecv_follows c l t e _ _ .waitFirst
  · split
    · exact issueRecv_follows c l t e _ _ (.j1850 [] 0)
    · exact complete_follows c l t e nofun
  · exact issueRecv_follows c l t e _ _ .raw
  · exact issueRecv_follows c l t e _ _ .raw
  · exact complete_follows c l t e nofun
  · exact complete_follows c l t e nofun

/-- The receiver c ends as RECV ends, over any events. -/
theorem receive_ends (evs : List Input) (hidle : (runOver evs (beginReceive t .recv)).estate = .idle) :
    c.Ends l (runOver evs (beginReceive t .recv))
      (runOver evs (beginReceive (t.beside (c.queue l) id e) c)) := by
  have hrun := (beginReceive_follows c l t e).run (fun t e res k k' hk => ?ack)
    (fun t e res time k k' hk => ?recv) (fun _ _ evs h => h.withInputs evs) evs
  case ack =>
    cases hk
    exact onRx1850Resend_follows c l t e _ res
  case recv =>
    cases hk with
    | waitFirst => exact onRxWaitFirst_follows c l t e time res
    | accum frames cur ts => exact onRxAccum_follows c l t e frames cur ts res
    | waitMore frames => exact onRxWaitMore_follows c l t e frames time res
    | raw => exact onRxRaw_follows c l t e time res
    | j1850 frames n => exact onRx1850_follows c l t e frames n time res
  obtain ⟨e', he, -⟩ | ⟨-, -, hends⟩ := hrun
  · rw [hidle] at he
    cases he
  · exact hends

end Follows

end Sys2Proof.Machine
end

section

/-! ## The byte path of the keepalive is that of L3_RECV, up to what it does with its messages -/

namespace Sys2Proof.Machine

/-- The reads of the byte path of L3_RECV, and of the keepalive (R250, R260). -/
inductive PathAlike : RecvKont → RecvKont → Prop where
  | probe (room : Nat) (out : List Message) :
    PathAlike (.l3Probe ⟨.l3Recv, room, out⟩) (.l3Probe ⟨.keepalive, room, out⟩)
  | normal (room : Nat) (out : List Message) :
    PathAlike (.l3Normal ⟨.l3Recv, room, out⟩) (.l3Normal ⟨.keepalive, room, out⟩)
  | drain (room : Nat) (out : List Message) :
    PathAlike (.l3Drain ⟨.l3Recv, room, out⟩) (.l3Drain ⟨.keepalive, room, out⟩)

/-- The byte path of the keepalive, with the queue l and RETRIES b throughout, beside that of L3_RECV. -/
abbrev FollowsPath (l : List Message) (b : Byte) : State → State → Prop :=
  Beside (fun _ _ => False) PathAlike (fun _ => l) (fun _ => b)
    (fun t u => u = { t with msgq := l, retries := b })

/-- The state of the keepalive beside the state t of L3_RECV. -/
def State.pathBeside (t : State) (l : List Message) (b : Byte) (e : EState) : State :=
  t.beside (fun _ => l) (fun _ => b) e

section Path

variable (l : List Message) (b : Byte) (t : State) (e : EState) (room : Nat) (out : List Message)

theorem byteFinish_follows (err : ErrCode) :
    FollowsPath l b (byteFinish t ⟨.l3Recv, room, out⟩ err)
      (byteFinish (t.pathBeside l b e) ⟨.keepalive, room, out⟩ err) :=
  .inr ⟨rfl, rfl, rfl⟩

theorem l3Read_follows (n : Nat) {k k' : RecvKont} (hk : PathAlike k k') {f g : ErrCode → State}
    (herr : ∀ err, FollowsPath l b (f err) (g err)) :
    FollowsPath l b (l3Read t n k f) (l3Read (t.pathBeside l b e) n k' g) := by
  have hproto : (t.pathBeside l b e).proto = t.proto := rfl
  have hbuf : (t.pathBeside l b e).l3buf = t.l3buf := rfl
  simp only [l3Read, hproto, hbuf]
  split
  · exact herr _
  · split
    · exact herr _
    · exact .inl ⟨_, .awaitRecv _ n hk, rfl⟩

theorem drainError_follows (err : ErrCode) :
    FollowsPath l b (drainError t ⟨.l3Recv, room, out⟩ err)
      (drainError (t.pathBeside l b e) ⟨.keepalive, room, out⟩ err) := by
  unfold drainError
  split <;> exact byteFinish_follows l b t e room out _

theorem enterDrain_follows :
    FollowsPath l b (enterDrain t ⟨.l3Recv, room, out⟩)
      (enterDrain (t.pathBeside l b e) ⟨.keepalive, room, out⟩) :=
  l3Read_follows l b t e _ (.drain room out) (drainError_follows l b t e room out)

theorem enterNormal_follows :
    FollowsPath l b (enterNormal t ⟨.l3Recv, room, out⟩)
      (enterNormal (t.pathBeside l b e) ⟨.keepalive, room, out⟩) :=
  l3Read_follows l b t e _ (.normal room out) (byteFinish_follows l b t e room out)

/-- Reassembly looks at neither the caller nor the queue. -/
theorem byteStep_pathBeside :
    byteStep (t.pathBeside l b e) ⟨.keepalive, room, out⟩ =
      ((byteStep t ⟨.l3Recv, room, out⟩).1.pathBeside l b e,
        ⟨.keepalive, room, (byteStep t ⟨.l3Recv, room, out⟩).2.1.produced⟩,
        (byteStep t ⟨.l3Recv, room, out⟩).2.2) := rfl

theorem probeStep_follows :
    FollowsPath l b (probeStep t ⟨.l3Recv, room, out⟩)
      (probeStep (t.pathBeside l b e) ⟨.keepalive, room, out⟩) := by
  rw [probeStep_eq, probeStep_eq, byteStep_pathBeside]
  split
  · exact byteFinish_follows l b _ e room _ _
  · split
    · exact byteFinish_follows l b _ e room _ _
    · exact enterNormal_follows l b _ e room _

theorem probeError_follows (err : ErrCode) :
    FollowsPath l b (probeError t ⟨.l3Recv, room, out⟩ err)
      (probeError (t.pathBeside l b e) ⟨.keepalive, room, out⟩ err) := by
  unfold probeError
  split
  · exact probeStep_follows l b t e room out
  · exact byteFinish_follows l b t e room out err

theorem enterProbe_follows :
    FollowsPath l b (enterProbe t ⟨.l3Recv, room, out⟩)
      (enterProbe (t.pathBeside l b e) ⟨.keepalive, room, out⟩) :=
  l3Read_follows l b t e _ (.probe room out) (probeError_follows l b t e room out)

theorem onL3Probe_follows (r : RecvResult) :
    FollowsPath l b (onL3Probe t ⟨.l3Recv, room, out⟩ r)
      (onL3Probe (t.pathBeside l b e) ⟨.keepalive, room, out⟩ r) := by
  cases r with
  | data d => exact probeStep_follows l b (t.takeBytes d) e room out
  | err err => exact probeError_follows l b t e room out err.toCode

theorem takeBytes_pathBeside (d : List Byte) :
    (t.pathBeside l b e).takeBytes d = (t.takeBytes d).pathBeside l b e := rfl

theorem onL3Normal_follows (r : RecvResult) :
    FollowsPath l b (onL3Normal t ⟨.l3Recv, room, out⟩ r)
      (onL3Normal (t.pathBeside l b e) ⟨.keepalive, room, out⟩ r) := by
  cases r with
  | data d =>
    rw [onL3Normal_data, onL3Normal_data, takeBytes_pathBeside, byteStep_pathBeside]
    split
    · exact byteFinish_follows l b _ e room _ _
    · split
      · exact byteFinish_follows l b _ e room _ _
      · exact enterDrain_follows l b _ e room _
  | err err => exact byteFinish_follows l b t e room out err.toCode

theorem onL3Drain_follows (r : RecvResult) :
    FollowsPath l b (onL3Drain t ⟨.l3Recv, room, out⟩ r)
      (onL3Drain (t.pathBeside l b e) ⟨.keepalive, room, out⟩ r) := by
  cases r with
  | data d =>
    rw [onL3Drain_data, onL3Drain_data, takeBytes_pathBeside, byteStep_pathBeside]
    split
    · exact byteFinish_follows l b _ e room _ _
    · exact enterDrain_follows l b _ e room _
  | err err => exact drainError_follows l b t e room out err.toCode

/-- The byte path of the keepalive ends as that of L3_RECV ends, over any events. -/
theorem path_ends {evs : List Input} {u : State}
    (hrun : runOver evs (enterProbe t ⟨.l3Recv, room, out⟩) = u) (hidle : u.estate = .idle) :
    runOver evs (enterProbe (t.pathBeside l b e) ⟨.keepalive, room, out⟩) =
      { u with msgq := l, retries := b } := by
  have hfollows := (enterProbe_follows l b t e room out).run (fun _ _ _ _ _ hk => ?ack)
    (fun t e res time k k' hk => ?recv) (fun t u evs h => ?inputs) evs
  case ack => exact False.elim hk
  case inputs => exact congrArg (State.withInputs evs) h
  case recv =>
    cases hk with
    | probe room out => exact onL3Probe_follows l b t e room out res
    | normal room out => exact onL3Normal_follows l b t e room out res
    | drain room out => exact onL3Drain_follows l b t e room out res
  obtain ⟨e', he, -⟩ | ⟨-, -, hends⟩ := hfollows
  · rw [hrun, hidle] at he
    cases he
  · rwa [hrun] at hends

end Path

end Sys2Proof.Machine
end

section

/-! ## REQUEST and L3_KEEPALIVE: a send, and the receive that follows it -/

namespace Sys2Proof.Machine

open Claims

/-! ### The receive after the send -/

theorem exec_recv_up {t : State} (hl : t.link = .up) :
    exec .recv t = .next (runOver t.inputs (beginReceive (t.setRetries 0) .recv)) := by
  have hinputs : (beginReceive (t.setRetries 0) .recv).inputs = t.inputs :=
    (beginReceive_stretch (c := .recv) (Stretch.refl _ (t.setRetries 0))).inputs
  rw [exec, execRecv, beginRecv_up hl, runCommand, hinputs]

/-- A receive does not look at the events that its state lists. -/
theorem runOver_beginReceive_withInputs (t : State) (c : Receiver) (evs evs' : List Input) :
    runOver evs (beginReceive (t.withInputs evs') c) = runOver evs (beginReceive t c) :=
  (congrArg (runOver evs) (beginReceive_ignoresInputs c t evs')).trans (runOver_withInputs evs evs' _)

/-- The emitted frame in LASTTX, before the command goes on (R189). -/
def sentFrame (t : State) (n : Nat) (frame : List Byte) : State :=
  { emitted t n frame with lasttx := some frame }

theorem afterFrame_eq (s : State) (n : Nat) (frame : List Byte) (rest : List Input) :
    afterFrame s n frame rest = (sentFrame s n frame).withInputs rest := by
  simp only [sentFrame, emitted, State.recorded, State.later, State.withInputs, afterFrame]

/-! ### REQUEST (R215) -/

theorem receiveUnsupported_iff (s : State) : s.receiveUnsupported = true ↔ NoFraming s := by
  simp only [State.receiveUnsupported, Bool.and_eq_true, beq_iff_eq, Bool.not_eq_true']
  rfl

theorem exec_request_up {s : State} {bs : List Byte} (hl : s.link = .up) (htx : TxHolds s bs) :
    exec .request s = .next (runCommand (l2SendBytes (s.setRetries 0) .request bs)) := by
  have hbegin : beginRequest s = l2Send (s.setRetries 0) .request := if_neg (not_not.mpr hl)
  rw [exec, execRequest, hbegin, l2Send_of_txHolds (s := s.setRetries 0) htx, thenRun_next]

/-- REQUEST that completes before its first operation. -/
theorem exec_request_completes {s : State} {bs : List Byte} {e : ErrCode} (hl : s.link = .up)
    (htx : TxHolds s bs)
    (h : l2SendBytes (s.setRetries 0) .request bs = (s.setRetries 0).complete e) :
    exec .request s = .next { ended s e with retries := 0 } := by
  rw [exec_request_up hl htx, h, runCommand_complete]
  rfl

/-- REQUEST of a frame that the framer builds runs its emit (R184, R215). -/
theorem exec_request_emits {s : State} {bs frame : List Byte} (hl : s.link = .up) (htx : TxHolds s bs)
    (h : frameFor s bs = .ok frame) (hrecv : ¬NoFraming s) {evs : List Input} (hin : s.inputs = evs) :
    exec .request s = .next (runOver evs (emit (s.setRetries 0) .request frame)) := by
  have hanswer : (s.setRetries 0).answerUnsupported .request = false :=
    Bool.eq_false_iff.mpr (mt (receiveUnsupported_iff s).mp hrecv)
  have hinputs : (emit (s.setRetries 0) .request frame).inputs = evs :=
    (emit_stretch (Stretch.refl _ (s.setRetries 0)) frame).inputs.trans hin
  rw [exec_request_up hl htx, l2SendBytes_emits (s := s.setRetries 0) h hanswer, runCommand, hinputs]

/-- REQUEST ends as RECV from the sent frame ends (R215). -/
theorem exec_request_as_recv {s t : State} {bs frame : List Byte} {n : Nat} {rest : List Input}
    (hl : s.link = .up) (htx : TxHolds s bs) (h : frameFor s bs = .ok frame) (hrecv : ¬NoFraming s)
    (hn : s.tp4min.toNat ≤ n) (hn' : n < 2 ^ 32) (hin : s.inputs = emitScript s n frame ++ rest)
    (hexec : exec .recv (afterFrame s n frame rest) = .next t) (hidle : t.estate = .idle) :
    exec .request s = .next t := by
  have hsent : runOver (emitScript s n frame ++ rest) (emit (s.setRetries 0) .request frame) =
      runOver rest (beginReceive (sentFrame (s.setRetries 0) n frame) .request) :=
    runOver_emit (t := s.setRetries 0) hn hn' rest
  have hfrom : (afterFrame s n frame rest).setRetries 0 =
      (sentFrame (s.setRetries 0) n frame).withInputs rest := afterFrame_eq (s.setRetries 0) n frame rest
  have hl' : (afterFrame s n frame rest).link = .up := hl
  have hinputs : (afterFrame s n frame rest).inputs = rest := rfl
  rw [exec_recv_up hl', hfrom, runOver_beginReceive_withInputs, hinputs, Host.Outcome.next.injEq] at hexec
  have hends : runOver rest (beginReceive (sentFrame (s.setRetries 0) n frame) .request) =
      runOver rest (beginReceive (sentFrame (s.setRetries 0) n frame) .recv) :=
    receive_ends .request [] (sentFrame (s.setRetries 0) n frame)
      (sentFrame (s.setRetries 0) n frame).estate rest (by rw [hexec]; exact hidle)
  rw [exec_request_emits hl htx h hrecv hin, hsent, hends, hexec]

/-- Settles O45: the events of the send, and then those of a RECV from the sent frame. -/
theorem requestSendsThenReceives : Obligations.RequestSendsThenReceives := by
  refine ⟨fun s bs frame rest hl htx hf => ⟨fun hrecv => ⟨fun n t hn hn' hin hexec hidle => ?_,
    fun n k e hn hn' hk he hin => ?_⟩, fun hno => ?_, fun d hp hmin hmax hroom hin => ?_⟩,
    fun s bs hl htx href => ?_⟩
  · exact exec_request_as_recv hl htx hf hrecv hn hn' hin hexec hidle
  · rw [exec_request_emits hl htx hf hrecv hin]
    exact congrArg Host.Outcome.next (runOver_emit_fails (t := s.setRetries 0) hn hn' hk he rest)
  · refine exec_request_completes hl htx (l2SendBytes_unsupported (s := s.setRetries 0) hf ?_)
    exact (receiveUnsupported_iff s).mpr hno
  · have hrecv : ¬NoFraming s := fun hno => by simp [NoFraming, hp] at hno
    have hne : bs ≠ [] := by
      rintro rfl
      rw [frameFor_refused (.inl ⟨rfl, by simp [hp]⟩)] at hf
      cases hf
    obtain rfl : bs = frame := Except.ok.inj ((frameFor_raw (.inl hp) hne).symm.trans hf)
    have hwhole : ¬ByteByByte s bs := not_byteByByte hp nofun nofun bs
    have hgap : s.tp4min.toNat < 2 ^ 32 := Nat.lt_trans s.tp4min.isLt (by decide)
    have hscript : s.inputs = emitScript s s.tp4min.toNat bs ++ (got d ++ rest) := by
      rw [hin, emitScript, if_neg hwhole, List.append_assoc]
    have hreads := ((recvRawMessage.1 (afterFrame s s.tp4min.toNat bs (got d ++ rest)) rest hl
      (.inl hp)).1 d hmin hmax hroom rfl)
    rw [exec_request_as_recv hl htx hf hrecv (Nat.le_refl _) hgap hscript hreads rfl]
    simp [ended, afterFrame, emitEvents, hwhole]
  · exact exec_request_completes hl htx
      (l2SendBytes_refused (frameFor_refused (s := s.setRetries 0) href) .request)

/-! ### L3_KEEPALIVE (R259, R260) -/

theorem exec_l3Keepalive_completes {s : State} {e : ErrCode} (h : beginL3Keepalive s = s.complete e) :
    exec .l3Keepalive s = .next (ended s e) := by
  rw [exec, execL3Keepalive, h, runCommand_complete]
  rfl

/-- The keepalive sends its payload where L2 does not keep the link alive and the link has been idle for
more than 3500 ms. -/
theorem beginL3Keepalive_due {s : State} (ha : s.l3active = true) (hk : s.has .keepalive = false)
    (hidle : 3500 < (s.now - s.l3idle).toNat) :
    beginL3Keepalive s = l2SendBytes s .keepalive keepalivePayload := by
  have hdue : ¬s.idleMs ≤ Config.keepaliveMs := Nat.not_le.mpr hidle
  simp only [beginL3Keepalive, ha, hk, if_neg hdue, Bool.false_eq_true, if_true, if_false]

/-- t with no message in its queue. -/
def State.drained (t : State) : State := { t with msgq := [] }

/-- The framed keepalive ends as RECV into an empty queue ends, and drops its messages. -/
theorem keepalive_as_recv {u t : State} (hl : u.link = .up) (hexec : exec .recv u.drained = .next t)
    (hidle : t.estate = .idle) (herr : t.err ≠ .noMemory) :
    runOver u.inputs (beginReceive (u.setRetries 0) .keepalive) = { t with msgq := u.msgq } := by
  have hbeside : (u.drained.setRetries 0).beside (Receiver.keepalive.queue u.msgq) id u.estate =
      u.setRetries 0 := rfl
  have hinputs : u.drained.inputs = u.inputs := rfl
  rw [exec_recv_up (t := u.drained) hl, hinputs, Host.Outcome.next.injEq] at hexec
  have hends := receive_ends .keepalive u.msgq (u.drained.setRetries 0) u.estate u.inputs
    (by rw [hexec]; exact hidle)
  rw [hexec, hbeside] at hends
  exact hends herr

/-- L3_RECV on the byte path with all of MSGQ free. -/
theorem exec_l3Recv_bytePath {t : State} (ha : t.l3active = true) (hq : t.msgq = [])
    (hcap : t.has .doesL2Frame = false) :
    exec .l3Recv t = .next (runOver t.inputs (enterProbe (t.setRetries 0) ⟨.l3Recv, 16, []⟩)) := by
  have hcap' : (t.setRetries 0).has .doesL2Frame = false := hcap
  have hbegin : beginL3Recv t = enterProbe (t.setRetries 0) ⟨.l3Recv, 16, []⟩ := by
    simp only [beginL3Recv, ha, hq, hcap', if_true, Bool.false_eq_true, if_false]
    rfl
  have hinputs : (enterProbe (t.setRetries 0) ⟨.l3Recv, 16, []⟩).inputs = t.inputs :=
    (enterProbe_stretch (i := .l3Recv) (Stretch.refl _ (t.setRetries 0)) rfl).inputs
  rw [exec, execL3Recv, hbegin, runCommand, hinputs]

/-- The byte path of the keepalive ends as L3_RECV into an empty queue ends, and drops its messages. -/
theorem keepalive_as_l3Recv {u t : State} (ha : u.l3active = true) (hcap : u.has .doesL2Frame = false)
    (hexec : exec .l3Recv u.drained = .next t) (hidle : t.estate = .idle) :
    runOver u.inputs (enterProbe u ⟨.keepalive, 16, []⟩) =
      { t with msgq := u.msgq, retries := u.retries } := by
  have hbeside : (u.drained.setRetries 0).pathBeside u.msgq u.retries u.estate = u := rfl
  have hinputs : u.drained.inputs = u.inputs := rfl
  rw [exec_l3Recv_bytePath (t := u.drained) ha rfl hcap, hinputs, Host.Outcome.next.injEq] at hexec
  have hends := path_ends u.msgq u.retries (u.drained.setRetries 0) u.estate 16 [] hexec hidle
  rwa [hbeside] at hends

/-! ### One message on the byte path (R254) -/

/-- Bytes that are one whole message are taken as that message (R247). -/
theorem reassemble_oneMessage {p : Params} {m : List Byte} (h : expectedLength p m = .ok m.length)
    (now : Word) (room : Nat) : reassemble p now (room + 1) m = ⟨[l3msg m now], [], false⟩ := by
  have hnone : reassemble p now room [] = ⟨[], [], false⟩ := by
    cases room <;> rfl
  simp only [reassemble, h, gt_iff_lt, Nat.lt_irrefl, if_false, List.take_length, List.drop_length, hnone]

theorem probeStep_oneMessage {t : State} {p : Params} (hp : t.params = p)
    (h : expectedLength p t.l3buf = .ok t.l3buf.length) :
    probeStep t ⟨.keepalive, 16, []⟩ = { t with l3buf := [] }.complete .ok := by
  subst hp
  have hstep : byteStep t ⟨.keepalive, 16, []⟩ =
      ({ t with l3buf := [] }, ⟨.keepalive, 16, [l3msg t.l3buf t.now]⟩, false) := by
    simp only [byteStep, List.length_nil, Nat.sub_zero, reassemble_oneMessage h, List.nil_append]
  rw [probeStep_eq, hstep]
  rfl

/-- The first read of the keepalive brings one whole message, which is dropped. -/
theorem runOver_keepalive_oneMessage {v : State} {m : List Byte} (hp : v.proto ≠ some .vag)
    (hbuf : v.l3buf = []) (hidle : v.l3idle = v.now) (harb : v.arb = .idle) (hmax : m.length ≤ 64)
    (hm : expectedLength v.params m = .ok m.length) (evs : List Input) :
    runOver (got m ++ evs) (enterProbe v ⟨.keepalive, 16, []⟩) =
      { ended v .ok with history := v.history ++ [dataEvent 64 0 m], inputs := evs } := by
  have hread : enterProbe v ⟨.keepalive, 16, []⟩ = v.issueRecv 64 0 (.l3Probe ⟨.keepalive, 16, []⟩) := by
    simp only [enterProbe, l3Read, if_neg hp, hbuf]
    rfl
  have hne : m ≠ [] := by
    rintro rfl
    cases hm
  have hjoin : ((v.recorded [dataEvent 64 0 m]).takeBytes m).l3buf = m := by
    rw [takeBytes_l3buf]
    exact congrArg (· ++ m) hbuf
  have hstep : probeStep ((v.recorded [dataEvent 64 0 m]).takeBytes m) ⟨.keepalive, 16, []⟩ =
      { (v.recorded [dataEvent 64 0 m]).takeBytes m with l3buf := [] }.complete .ok :=
    probeStep_oneMessage (p := v.params) rfl (by rw [hjoin]; exact hm)
  have hact : ∀ e, onRecv { v.recorded [dataEvent 64 0 m] with estate := e } (.data m) v.now
      (.l3Probe ⟨.keepalive, 16, []⟩) =
      { (v.recorded [dataEvent 64 0 m]).takeBytes m with l3buf := [] }.complete .ok := fun e =>
    (probeStep_withEstate ((v.recorded [dataEvent 64 0 m]).takeBytes m) e _).trans hstep
  have hend : { (v.recorded [dataEvent 64 0 m]).takeBytes m with l3buf := [] }.withInputs evs =
      { v with history := v.history ++ [dataEvent 64 0 m], inputs := evs } := by
    simp only [State.recorded, State.takeBytes, State.withInputs, hbuf, hidle, harb]
  rw [hread, runOver_got hne hmax hact, runOver_complete]
  exact congrArg (ended · .ok) hend

/-! ### The keepalive over its events -/

/-- A keepalive that sends is an emit over the events of the state. -/
theorem exec_l3Keepalive_emits {s : State} {frame : List Byte} {evs : List Input}
    (hbegin : beginL3Keepalive s = emit s .keepalive frame) (hin : s.inputs = evs) :
    exec .l3Keepalive s = .next (runOver evs (emit s .keepalive frame)) := by
  have hinputs : (emit s .keepalive frame).inputs = evs :=
    (emit_stretch (Stretch.refl _ s) frame).inputs.trans hin
  rw [exec, execL3Keepalive, hbegin, runCommand, hinputs]

/-- The state in which the keepalive begins its receive (R259). -/
def keepaliveSent (s : State) (n : Nat) (frame : List Byte) (rest : List Input) : State :=
  { afterFrame s n frame rest with l3idle := (afterFrame s n frame rest).now }

/-! The registers that the send leaves as they are, and those that it writes. -/

section Fields

variable (s : State) (n : Nat) (frame : List Byte) (rest : List Input)

theorem keepaliveSent_link : (keepaliveSent s n frame rest).link = s.link := by
  simp only [keepaliveSent, afterFrame]

theorem keepaliveSent_msgq : (keepaliveSent s n frame rest).msgq = s.msgq := by
  simp only [keepaliveSent, afterFrame]

theorem keepaliveSent_retries : (keepaliveSent s n frame rest).retries = s.retries := by
  simp only [keepaliveSent, afterFrame]

theorem keepaliveSent_l3active : (keepaliveSent s n frame rest).l3active = s.l3active := by
  simp only [keepaliveSent, afterFrame]

theorem keepaliveSent_l3buf : (keepaliveSent s n frame rest).l3buf = s.l3buf := by
  simp only [keepaliveSent, afterFrame]

theorem keepaliveSent_params : (keepaliveSent s n frame rest).params = s.params := by
  simp only [keepaliveSent, afterFrame]

theorem keepaliveSent_has (c : Cap) : (keepaliveSent s n frame rest).has c = s.has c := by
  simp only [keepaliveSent, afterFrame, State.has]

theorem keepaliveSent_proto : (keepaliveSent s n frame rest).proto = s.proto := by
  simp only [keepaliveSent, afterFrame, State.proto]

theorem keepaliveSent_inputs : (keepaliveSent s n frame rest).inputs = rest := by
  simp only [keepaliveSent, afterFrame]

theorem keepaliveSent_arb : (keepaliveSent s n frame rest).arb = .idle := by
  simp only [keepaliveSent, afterFrame]

theorem keepaliveSent_l3idle :
    (keepaliveSent s n frame rest).l3idle = (keepaliveSent s n frame rest).now := by
  simp only [keepaliveSent]

theorem keepaliveSent_eq : keepaliveSent s n frame rest =
    { sentFrame s n frame with l3idle := (sentFrame s n frame).now }.withInputs rest := by
  simp only [keepaliveSent, afterFrame_eq, State.withInputs]

end Fields

section Sent

variable {s u : State} {frame : List Byte} {n : Nat} {rest : List Input}
  (hbegin : beginL3Keepalive s = emit s .keepalive frame) (hn : s.tp4min.toNat ≤ n)
  (hn' : n < 2 ^ 32) (hin : s.inputs = emitScript s n frame ++ rest)
  (hu : keepaliveSent s n frame rest = u)
include hbegin hn hn' hin hu

/-- The keepalive whose operations are all answered Ok goes on to its receive (R259, R260). -/
theorem exec_l3Keepalive_sent :
    exec .l3Keepalive s = .next (runOver u.inputs (keepaliveReceive u)) := by
  have hinputs : u.inputs = rest := by rw [← hu, keepaliveSent_inputs]
  rw [hinputs, ← hu, keepaliveSent_eq, keepaliveReceive_ignoresInputs, runOver_withInputs,
    exec_l3Keepalive_emits hbegin hin, runOver_emit hn hn']
  rfl

/-- The framed answer is read as RECV reads it, and dropped (R260). -/
theorem exec_l3Keepalive_as_recv (hcap : s.has .doesL2Frame = true) (hl : s.link = .up) {t : State}
    (hexec : exec .recv u.drained = .next t) (hidle : t.estate = .idle) (herr : t.err ≠ .noMemory) :
    exec .l3Keepalive s = .next { t with msgq := s.msgq } := by
  have hcap' : u.has .doesL2Frame = true := by rw [← hu, keepaliveSent_has, hcap]
  have hl' : u.link = .up := by rw [← hu, keepaliveSent_link, hl]
  have hq : u.msgq = s.msgq := by rw [← hu, keepaliveSent_msgq]
  rw [exec_l3Keepalive_sent hbegin hn hn' hin hu, keepaliveReceive, if_pos hcap',
    keepalive_as_recv hl' hexec hidle herr, hq]

/-- On the byte path the receive begins with L3_PROBE and all of MSGQ_CAP as room (R260). -/
theorem exec_l3Keepalive_bytePath (hcap : s.has .doesL2Frame = false) :
    exec .l3Keepalive s = .next (runOver u.inputs (enterProbe u ⟨.keepalive, 16, []⟩)) := by
  have hcap' : ¬u.has .doesL2Frame = true := by rw [← hu, keepaliveSent_has, hcap]; exact nofun
  rw [exec_l3Keepalive_sent hbegin hn hn' hin hu, keepaliveReceive, if_neg hcap', Config.msgqCap]

/-- The answer on the byte path is read as L3_RECV reads it, and dropped (R260). -/
theorem exec_l3Keepalive_as_l3Recv (ha : s.l3active = true) (hcap : s.has .doesL2Frame = false)
    {t : State} (hexec : exec .l3Recv u.drained = .next t) (hidle : t.estate = .idle) :
    exec .l3Keepalive s = .next { t with msgq := s.msgq, retries := s.retries } := by
  have hcap' : u.has .doesL2Frame = false := by rw [← hu, keepaliveSent_has, hcap]
  have ha' : u.l3active = true := by rw [← hu, keepaliveSent_l3active, ha]
  have hq : u.msgq = s.msgq := by rw [← hu, keepaliveSent_msgq]
  have hr : u.retries = s.retries := by rw [← hu, keepaliveSent_retries]
  rw [exec_l3Keepalive_bytePath hbegin hn hn' hin hu hcap, keepalive_as_l3Recv ha' hcap' hexec hidle, hq,
    hr]

/-- One whole message answers the keepalive on the byte path (R254, R260). -/
theorem exec_l3Keepalive_oneMessage (hcap : s.has .doesL2Frame = false) (hp : s.proto ≠ some .vag)
    (hbuf : s.l3buf = []) {m : List Byte} {more : List Input} (hmax : m.length ≤ 64)
    (hm : expectedLength s.params m = .ok m.length) (hrest : rest = got m ++ more) :
    exec .l3Keepalive s = .next
      { ended u .ok with history := u.history ++ [dataEvent 64 0 m], inputs := more } := by
  have hp' : u.proto ≠ some .vag := by rwa [← hu, keepaliveSent_proto]
  have hbuf' : u.l3buf = [] := by rw [← hu, keepaliveSent_l3buf, hbuf]
  have hidle : u.l3idle = u.now := by rw [← hu, keepaliveSent_l3idle]
  have harb : u.arb = .idle := by rw [← hu, keepaliveSent_arb]
  have hm' : expectedLength u.params m = .ok m.length := by rwa [← hu, keepaliveSent_params]
  have hinputs : u.inputs = got m ++ more := by rw [← hu, keepaliveSent_inputs, hrest]
  rw [exec_l3Keepalive_bytePath hbegin hn hn' hin hu hcap, hinputs,
    runOver_keepalive_oneMessage hp' hbuf' hidle harb hmax hm' more]

end Sent

/-- The keepalive's answer is supported unless its receive is a framed one that is not. -/
theorem answerUnsupported_keepalive_iff (s : State) :
    s.answerUnsupported .keepalive = true ↔ s.has .doesL2Frame = true ∧ NoFraming s := by
  simp only [State.answerUnsupported, Bool.and_eq_true, receiveUnsupported_iff]

/-- Settles O55: the checks before the send, the events of the send, and the receive that follows it
beside RECV or L3_RECV into an empty queue. -/
theorem keepaliveCommand : Obligations.KeepaliveCommand := by
  refine fun s ha => ⟨fun hk => ?_, fun hk hidle => ?_, fun hk hidle hp => ?_, fun hk hidle href => ?_,
    fun frame hk hidle hf => ⟨fun hcap hno => ?_, fun hsup => ?_⟩⟩
  · refine exec_l3Keepalive_completes ?_
    simp only [beginL3Keepalive, ha, hk, if_true]
  · have hidle' : s.idleMs ≤ Config.keepaliveMs := hidle
    refine exec_l3Keepalive_completes ?_
    simp only [beginL3Keepalive, ha, hk, if_pos hidle', if_true, Bool.false_eq_true, if_false]
  · have hvag : frameFor s keepalivePayload = .error .protocolNotSupported := by simp only [frameFor, hp]
    exact exec_l3Keepalive_completes
      ((beginL3Keepalive_due ha hk hidle).trans (l2SendBytes_refused hvag _))
  · exact exec_l3Keepalive_completes
      ((beginL3Keepalive_due ha hk hidle).trans (l2SendBytes_refused (frameFor_refused href) _))
  · exact exec_l3Keepalive_completes ((beginL3Keepalive_due ha hk hidle).trans
      (l2SendBytes_unsupported hf ((answerUnsupported_keepalive_iff s).mpr ⟨hcap, hno⟩)))
  · have hbegin : beginL3Keepalive s = emit s .keepalive frame := (beginL3Keepalive_due ha hk hidle).trans
      (l2SendBytes_emits hf (Bool.eq_false_iff.mpr (mt (answerUnsupported_keepalive_iff s).mp hsup)))
    refine ⟨fun n k e rest hn hn' hk he hin => ?_, fun n u rest hn hn' hin hu =>
      ⟨fun hcap hl t hexec hend herr => ?_, fun hcap => ⟨fun m more hbuf hmax hm hrest => ?_,
        fun t hexec hend => ?_⟩⟩⟩
    · rw [exec_l3Keepalive_emits hbegin hin, runOver_emit_fails hn hn' hk he]
    · exact exec_l3Keepalive_as_recv hbegin hn hn' hin hu.symm hcap hl hexec hend herr
    · have hvag : s.proto ≠ some .vag := by
        intro hp
        simp only [frameFor, hp, reduceCtorEq] at hf
      exact exec_l3Keepalive_oneMessage hbegin hn hn' hin hu.symm hcap hvag hbuf hmax hm hrest
    · exact exec_l3Keepalive_as_l3Recv hbegin hn hn' hin hu.symm ha hcap hexec hend

end Sys2Proof.Machine
end

section

/-! ## The length inference -/

namespace Sys2Proof.Machine

open Claims

/-! ### The tables (R244, R245) -/

theorem reqLen_eq_none {k : Nat} (h : k = 0 ∨ 10 ≤ k) : reqLen k = none := by
  unfold reqLen
  split
  case h_10 => rfl
  all_goals omega

theorem reqLen_bounds {k n : Nat} (h : reqLen k = some n) : 5 ≤ n ∧ n ≤ 11 := by
  unfold reqLen at h
  split at h <;> cases h <;> decide

theorem boundedLen_cases (o : Option Nat) :
    boundedLen o = .bad ∨ ∃ n, boundedLen o = .ok n ∧ 5 ≤ n ∧ n ≤ 64 := by
  cases o with
  | none => exact .inl rfl
  | some n =>
    simp only [boundedLen]
    split
    · exact .inr ⟨n, rfl, ‹_›⟩
    · exact .inl rfl

/-- Whatever the parameter table lists, RESPLEN gives a length from 5 to 64 or BadData (R245). -/
theorem respLen_cases (p : Params) (mode : Byte) (pid : Option Byte) :
    respLen p mode pid = .bad ∨ ∃ n, respLen p mode pid = .ok n ∧ 5 ≤ n ∧ n ≤ 64 := by
  unfold respLen
  split
  · exact .inr ⟨10, rfl, by decide⟩
  · split
    · exact .inr ⟨8, rfl, by decide⟩
    · split
      · exact .inl rfl
      · split
        · exact boundedLen_cases _
        · exact .inl rfl

/-! ### One equation per class of mode bytes (R243) -/

section Modes

variable {p : Params} {b : List Byte}

theorem expectedLength_short (h : b.length < 4) : expectedLength p b = .incomplete := by
  have h3 : b[3]? = none := List.getElem?_eq_none (Nat.le_of_lt_succ h)
  simp only [expectedLength, h3]

variable {mode : Byte} (h3 : b[3]? = some mode)
include h3

theorem expectedLength_request {n : Nat} (h : reqLen mode.toNat = some n) :
    expectedLength p b = .ok n := by
  simp only [expectedLength, h3, h]

theorem expectedLength_neither (hreq : reqLen mode.toNat = none)
    (hresp : ¬(0x41 ≤ mode.toNat ∧ mode.toNat ≤ 0x49)) : expectedLength p b = .bad := by
  simp only [expectedLength, h3, hreq, if_neg hresp]

section Response

variable (hresp : 0x41 ≤ mode.toNat ∧ mode.toNat ≤ 0x49)
include hresp

theorem expectedLength_noPid (hpid : pidMode mode = false) :
    expectedLength p b = respLen p mode none := by
  have hreq : reqLen mode.toNat = none := reqLen_eq_none (.inr (by omega))
  simp only [expectedLength, h3, hreq, if_pos hresp, hpid, Bool.false_eq_true, if_false]

variable (hpid : pidMode mode = true)
include hpid

theorem expectedLength_awaitsPid (h4 : b[4]? = none) : expectedLength p b = .incomplete := by
  have hreq : reqLen mode.toNat = none := reqLen_eq_none (.inr (by omega))
  simp only [expectedLength, h3, hreq, if_pos hresp, hpid, if_true, h4]

theorem expectedLength_pid {pid : Byte} (h4 : b[4]? = some pid) :
    expectedLength p b = respLen p mode (some pid) := by
  have hreq : reqLen mode.toNat = none := reqLen_eq_none (.inr (by omega))
  simp only [expectedLength, h3, hreq, if_pos hresp, hpid, if_true, h4]

end Response

end Modes

/-- No byte but b[3] and b[4] is read (R246). -/
theorem expectedLength_congr (p : Params) {b d : List Byte} (h3 : b[3]? = d[3]?) (h4 : b[4]? = d[4]?) :
    expectedLength p b = expectedLength p d := by
  unfold expectedLength
  rw [h3, h4]

/-- The response modes that await a PID byte, with the range of response modes they lie in. -/
theorem pidMode_of_mem {mode : Byte} (h : mode ∈ [(0x41 : Byte), 0x42, 0x45, 0x49]) :
    (0x41 ≤ mode.toNat ∧ mode.toNat ≤ 0x49) ∧ pidMode mode = true := by
  simp only [List.mem_cons, List.not_mem_nil, or_false] at h
  obtain rfl | rfl | rfl | rfl := h <;> decide

theorem not_pidMode_of_mem {mode : Byte} (h : mode ∈ [(0x43 : Byte), 0x44, 0x46, 0x47, 0x48]) :
    (0x41 ≤ mode.toNat ∧ mode.toNat ≤ 0x49) ∧ pidMode mode = false := by
  simp only [List.mem_cons, List.not_mem_nil, or_false] at h
  obtain rfl | rfl | rfl | rfl | rfl := h <;> decide

theorem reqLen_of_mem {k n : Nat}
    (h : (k, n) ∈ [(1, 6), (2, 7), (3, 5), (4, 5), (5, 6), (6, 6), (7, 5), (8, 11), (9, 6)]) :
    reqLen k = some n := by
  have table : ∀ r ∈ [(1, 6), (2, 7), (3, 5), (4, 5), (5, 6), (6, 6), (7, 5), (8, 11), (9, 6)],
      reqLen r.1 = some r.2 := by decide
  exact table _ h

/-- Settles O49: the equation of each class of mode bytes, and the bounds of RESPLEN. -/
theorem lengthInference : Obligations.LengthInference := by
  refine ⟨fun p b => ⟨expectedLength_short, fun mode h3 => ⟨fun k n hkn hmode => ?_, fun hmode => ?_,
    fun hmem hlen => ?_, fun hmem pid h4 => ?_, fun hmem => ?_⟩, fun d => expectedLength_congr p⟩,
    fun p => ⟨rfl, rfl, rfl, respLen_cases p⟩⟩
  · exact expectedLength_request h3 (hmode ▸ reqLen_of_mem hkn)
  · exact expectedLength_neither h3 (reqLen_eq_none (by omega)) (by omega)
  · obtain ⟨hresp, hpid⟩ := pidMode_of_mem hmem
    exact expectedLength_awaitsPid h3 hresp hpid (List.getElem?_eq_none (Nat.le_of_eq hlen))
  · obtain ⟨hresp, hpid⟩ := pidMode_of_mem hmem
    exact expectedLength_pid h3 hresp hpid h4
  · obtain ⟨hresp, hpid⟩ := not_pidMode_of_mem hmem
    exact expectedLength_noPid h3 hresp hpid

end Sys2Proof.Machine
end

section

/-! ## Whole messages and partial ones, and what the reassembly makes of them -/

namespace Sys2Proof.Machine

open Claims

/-! ### The inference on more and on fewer bytes -/

/-- The bytes are one J1979 message, no more and no less (R243). -/
abbrev WholeMessage (p : Params) (m : List Byte) : Prop := expectedLength p m = .ok m.length

section Inference

variable {p : Params}

/-- What the inference can say: that it waits for one of the first five bytes, or a length from 5 to 64 or
BadData, which no further byte changes (R243, R245, R246). -/
theorem expectedLength_cases (p : Params) (b : List Byte) :
    (expectedLength p b = .incomplete ∧ b.length < 5) ∨
    ((∀ d, expectedLength p (b ++ d) = expectedLength p b) ∧
      (expectedLength p b = .bad ∨ ∃ n, expectedLength p b = .ok n ∧ 5 ≤ n ∧ n ≤ 64)) := by
  have more : ∀ {i : Nat} {x : Byte}, b[i]? = some x → ∀ d : List Byte, (b ++ d)[i]? = some x :=
    fun h d => by
      obtain ⟨hi, rfl⟩ := List.getElem?_eq_some_iff.mp h
      rw [List.getElem?_append_left hi, h]
  cases h3 : b[3]? with
  | none =>
    have hlen : b.length < 4 := Nat.lt_succ_of_le (List.getElem?_eq_none_iff.mp h3)
    exact .inl ⟨expectedLength_short hlen, Nat.lt_succ_of_lt hlen⟩
  | some mode =>
    cases hreq : reqLen mode.toNat with
    | some n =>
      obtain ⟨hmin, hmax⟩ := reqLen_bounds hreq
      have hverdict := expectedLength_request (p := p) h3 hreq
      exact .inr ⟨fun d => (expectedLength_request (more h3 d) hreq).trans hverdict.symm,
        .inr ⟨n, hverdict, hmin, Nat.le_trans hmax (by decide)⟩⟩
    | none =>
      by_cases hresp : 0x41 ≤ mode.toNat ∧ mode.toNat ≤ 0x49
      · cases hpid : pidMode mode with
        | false =>
          have hverdict := expectedLength_noPid (p := p) h3 hresp hpid
          exact .inr ⟨fun d => (expectedLength_noPid (more h3 d) hresp hpid).trans hverdict.symm,
            hverdict ▸ respLen_cases p mode none⟩
        | true =>
          cases h4 : b[4]? with
          | none =>
            exact .inl ⟨expectedLength_awaitsPid h3 hresp hpid h4,
              Nat.lt_succ_of_le (List.getElem?_eq_none_iff.mp h4)⟩
          | some pid =>
            have hverdict := expectedLength_pid (p := p) h3 hresp hpid h4
            exact .inr ⟨fun d =>
                (expectedLength_pid (more h3 d) hresp hpid (more h4 d)).trans hverdict.symm,
              hverdict ▸ respLen_cases p mode (some pid)⟩
      · have hverdict := expectedLength_neither (p := p) h3 hreq hresp
        exact .inr ⟨fun d => (expectedLength_neither (more h3 d) hreq hresp).trans hverdict.symm,
          .inl hverdict⟩

/-- A verdict stands whatever follows. -/
theorem expectedLength_append {b : List Byte} {v : LenResult} (h : expectedLength p b = v)
    (hv : v ≠ .incomplete) (d : List Byte) : expectedLength p (b ++ d) = v := by
  obtain ⟨hinc, -⟩ | ⟨hstable, -⟩ := expectedLength_cases p b
  · exact absurd (h.symm.trans hinc) hv
  · exact (hstable d).trans h

theorem expectedLength_ok_bounds {b : List Byte} {n : Nat} (h : expectedLength p b = .ok n) :
    5 ≤ n ∧ n ≤ 64 := by
  obtain ⟨hinc, -⟩ | ⟨-, hbad | ⟨k, hok, hk⟩⟩ := expectedLength_cases p b
  · rw [h] at hinc; cases hinc
  · rw [h] at hbad; cases hbad
  · rw [h] at hok; cases hok; exact hk

theorem WholeMessage.ne_nil {m : List Byte} (h : WholeMessage p m) : m ≠ [] := by
  rintro rfl
  cases h

theorem partial_nil (p : Params) : Partial p [] := .inl rfl

theorem length_lt_of_partial {b : List Byte} (h : Partial p b) : b.length < 64 := by
  obtain hinc | ⟨n, hok, hlt⟩ := h
  · obtain ⟨-, hlen⟩ | ⟨-, hbad | ⟨n, hok, -⟩⟩ := expectedLength_cases p b
    · exact Nat.lt_trans hlen (by decide)
    · rw [hinc] at hbad; cases hbad
    · rw [hinc] at hok; cases hok
  · exact Nat.lt_of_lt_of_le hlt (expectedLength_ok_bounds hok).2

/-- The bytes before the end of a message that is awaited are awaited too. -/
theorem partial_of_append {b d : List Byte} (h : Partial p (b ++ d)) : Partial p b := by
  obtain ⟨hinc, -⟩ | ⟨hstable, -⟩ := expectedLength_cases p b
  · exact .inl hinc
  · rw [Partial, hstable d] at h
    refine h.imp_right fun ⟨n, hok, hlt⟩ => ⟨n, hok, Nat.lt_of_le_of_lt ?_ hlt⟩
    exact List.length_append ▸ Nat.le_add_right _ _

/-- A message without its last bytes is partial. -/
theorem WholeMessage.partial_of_append {b d : List Byte} (h : WholeMessage p (b ++ d)) (hd : d ≠ []) :
    Partial p b := by
  obtain ⟨hinc, -⟩ | ⟨hstable, -⟩ := expectedLength_cases p b
  · exact .inl hinc
  · have hpos := List.length_pos_of_ne_nil hd
    refine .inr ⟨(b ++ d).length, (hstable d).symm.trans h, ?_⟩
    rw [List.length_append]
    omega

/-- Bytes that begin with a whole message are not partial. -/
theorem WholeMessage.not_partial {m : List Byte} (h : WholeMessage p m) (d : List Byte) :
    ¬Partial p (m ++ d) := by
  rw [Partial, expectedLength_append h nofun d, List.length_append]
  rintro (hinc | ⟨n, hok, hlt⟩)
  · cases hinc
  · cases hok; omega

end Inference

/-! ### The reassembly loop (R247) -/

section Reassemble

variable {p : Params} (now : Word)

theorem reassemble_partial {d : List Byte} (h : Partial p d) (room : Nat) :
    reassemble p now room d = ⟨[], d, false⟩ := by
  cases room with
  | zero => rfl
  | succ room =>
    obtain hinc | ⟨n, hok, hlt⟩ := h
    · simp only [reassemble, hinc]
    · simp only [reassemble, hok, gt_iff_lt, if_pos hlt]

theorem reassemble_bad {d : List Byte} (h : expectedLength p d = .bad) (room : Nat) :
    reassemble p now (room + 1) d = ⟨[l3errMsg now], afterBadData p d, true⟩ := by
  simp only [reassemble, h]

/-- Whole messages at the head of L3BUF are sliced off, one place of the room for each. -/
theorem reassemble_messages {ms : List (List Byte)} (hms : ∀ m ∈ ms, WholeMessage p m) (room : Nat)
    (d : List Byte) :
    reassemble p now (ms.length + room) (ms.flatten ++ d) =
      ⟨ms.map (messageL3 now) ++ (reassemble p now room d).out, (reassemble p now room d).buf,
        (reassemble p now room d).bad⟩ := by
  induction ms with
  | nil =>
    rw [List.length_nil, Nat.zero_add]
    rfl
  | cons m ms ih =>
    obtain ⟨hm, hms⟩ := List.forall_mem_cons.mp hms
    have hlen : ¬m.length > (m ++ (ms.flatten ++ d)).length := by
      rw [List.length_append]
      omega
    rw [List.length_cons, Nat.succ_add, List.flatten_cons, List.append_assoc, reassemble,
      expectedLength_append hm nofun]
    simp only [if_neg hlen, List.take_left, List.drop_left, ih hms]
    rfl

/-- The loop ends at a partial message, or where the room is used up. -/
theorem reassemble_stops {ms : List (List Byte)} {tail : List Byte} {room : Nat}
    (hms : ∀ m ∈ ms, WholeMessage p m) (hstop : Partial p tail ∨ room ≤ ms.length) :
    reassemble p now room (ms.flatten ++ tail) =
      ⟨(ms.take room).map (messageL3 now), (ms.drop room).flatten ++ tail, false⟩ := by
  by_cases hroom : room ≤ ms.length
  · have htake : ∀ m ∈ ms.take room, WholeMessage p m := fun m hm => hms m (List.mem_of_mem_take hm)
    have hloop := reassemble_messages now htake 0 ((ms.drop room).flatten ++ tail)
    rw [List.length_take, Nat.min_eq_left hroom, Nat.add_zero, ← List.append_assoc,
      ← List.flatten_append, List.take_append_drop] at hloop
    rw [hloop, reassemble, List.append_nil]
  · obtain ⟨k, rfl⟩ := Nat.exists_eq_add_of_le (Nat.le_of_not_le hroom)
    rw [reassemble_messages now hms, reassemble_partial now (hstop.resolve_right hroom),
      List.take_of_length_le (Nat.le_add_right _ _), List.drop_of_length_le (Nat.le_add_right _ _),
      List.append_nil]
    rfl

/-- The loop ends at bytes that no message can begin, where a place is left for the error message
(R247). -/
theorem reassemble_badData {ms : List (List Byte)} {d : List Byte} {room : Nat}
    (hms : ∀ m ∈ ms, WholeMessage p m) (hroom : ms.length < room) (hd : expectedLength p d = .bad) :
    reassemble p now room (ms.flatten ++ d) =
      ⟨ms.map (messageL3 now) ++ [l3errMsg now], afterBadData p d, true⟩ := by
  obtain ⟨k, rfl⟩ := Nat.exists_eq_add_of_lt hroom
  rw [Nat.add_assoc, reassemble_messages now hms, reassemble_bad now hd]

end Reassemble

/-! ### Any split of a stream into reads (R258) -/

section Stream

variable {p : Params}

/-- Where a stream of whole messages is cut, there are whole messages and a partial one before the cut. -/
theorem messages_before_cut {ms : List (List Byte)} (hms : ∀ m ∈ ms, WholeMessage p m)
    {x y : List Byte} (h : x ++ y = ms.flatten) :
    ∃ front back tail, ms = front ++ back ∧ x = front.flatten ++ tail ∧ Partial p tail ∧
      tail ++ y = back.flatten := by
  induction ms generalizing x with
  | nil =>
    obtain ⟨rfl, rfl⟩ := List.append_eq_nil_iff.mp h
    exact ⟨[], [], [], rfl, rfl, partial_nil p, rfl⟩
  | cons m ms ih =>
    obtain ⟨hm, hms⟩ := List.forall_mem_cons.mp hms
    obtain ⟨d, rfl, hy⟩ | ⟨d, rfl, hd⟩ := List.append_eq_append_iff.mp h
    · by_cases hne : d = []
      · subst hne
        rw [List.append_nil] at hm h ⊢
        exact ⟨[x], ms, [], rfl, by simp, partial_nil p, by simpa using hy⟩
      · exact ⟨[], (x ++ d) :: ms, x, rfl, rfl, hm.partial_of_append hne, h⟩
    · obtain ⟨front, back, tail, rfl, rfl, htail, hrest⟩ := ih hms hd.symm
      exact ⟨m :: front, back, tail, rfl, by simp, htail, hrest⟩

/-- Partial bytes are a stream of whole messages only where there are none. -/
theorem messages_eq_nil_of_partial {ms : List (List Byte)} (hms : ∀ m ∈ ms, WholeMessage p m)
    (h : Partial p ms.flatten) : ms = [] := by
  cases ms with
  | nil => rfl
  | cons m ms => exact absurd h ((List.forall_mem_cons.mp hms).1.not_partial ms.flatten)

/-- The reads of a stream of whole messages, the partial bytes `buf` of the first already read, give those
messages and leave nothing. -/
theorem feed_messages {room : Nat} {reads : List (Word × List Byte)} {buf : List Byte}
    {ms : List (List Byte)} (hms : ∀ m ∈ ms, WholeMessage p m) (hroom : ms.length ≤ room)
    (hbuf : Partial p buf) (hstream : buf ++ (reads.map Prod.snd).flatten = ms.flatten) :
    (feed p room reads buf).1.map content = ms.map (fun m => content (messageL3 0 m)) ∧
      (feed p room reads buf).2 = [] := by
  induction reads generalizing buf ms with
  | nil =>
    rw [List.map_nil, List.flatten_nil, List.append_nil] at hstream
    subst hstream
    obtain rfl := messages_eq_nil_of_partial hms hbuf
    exact ⟨rfl, rfl⟩
  | cons read reads ih =>
    obtain ⟨now, c⟩ := read
    rw [List.map_cons, List.flatten_cons, ← List.append_assoc] at hstream
    obtain ⟨front, back, tail, rfl, hread, htail, hrest⟩ := messages_before_cut hms hstream
    obtain ⟨hfront, hback⟩ := List.forall_mem_append.mp hms
    rw [List.length_append] at hroom
    obtain ⟨k, rfl⟩ := Nat.exists_eq_add_of_le (Nat.le_trans (Nat.le_add_right _ _) hroom)
    have hloop := reassemble_messages now hfront k tail
    rw [reassemble_partial now htail, ← hread] at hloop
    obtain ⟨hout, hleft⟩ := ih hback (Nat.le_trans (Nat.le_add_left _ _) hroom) htail hrest
    simp only [feed, hloop, List.append_nil, List.map_append, List.map_map, hout, hleft, and_true]
    rfl

end Stream

/-- Settles O50. -/
theorem reassemblyIdempotence : Obligations.ReassemblyIdempotence :=
  fun p _ _ _ hms hroom hstream => feed_messages hms hroom (partial_nil p) hstream

end Sys2Proof.Machine
end

section

/-! ## L3_START, L3_STOP, L3_SEND, and L3_RECV on a framed link -/

namespace Sys2Proof.Machine

open Claims

/-- Settles O47. -/
theorem sessionStartAndStop : Obligations.SessionStartAndStop := by
  refine fun s => ⟨fun ha hl => ?_, fun ha => ?_⟩
  · rw [exec, execL3Start, if_neg (by simp [ha, hl])]
    rfl
  · rw [exec, execL3Stop, if_pos ha]
    rfl

/-! ### L3_SEND (R242) -/

theorem exec_l3Send_session {s : State} {bs : List Byte} (ha : s.l3active = true) (htx : TxHolds s bs) :
    exec .l3Send s = .next (runCommand (l2SendBytes s .l3Send bs)) := by
  have hbegin : beginL3Send s = .next (l2SendBytes s .l3Send bs) :=
    (if_pos ha).trans (l2Send_of_txHolds htx .l3Send)
  rw [exec, execL3Send, hbegin, thenRun_next]

/-- L3_SEND of a frame that the framer builds runs its emit (R184, R242). -/
theorem exec_l3Send_emits {s : State} {bs frame : List Byte} (ha : s.l3active = true)
    (htx : TxHolds s bs) (h : frameFor s bs = .ok frame) {evs : List Input} (hin : s.inputs = evs) :
    exec .l3Send s = .next (runOver evs (emit s .l3Send frame)) := by
  have hinputs : (emit s .l3Send frame).inputs = evs :=
    (emit_stretch (Stretch.refl _ s) frame).inputs.trans hin
  rw [exec_l3Send_session ha htx, l2SendBytes_emits h rfl, runCommand, hinputs]

/-- Settles O48: the payloads that the framer refuses, and the events of the emit. -/
theorem sessionSend : Obligations.SessionSend := by
  refine ⟨fun s bs ha htx href => ?_, fun s bs frame rest ha htx hf => ⟨fun n hn hn' hin => ?_,
    fun n k e hn hn' hk he hin => ?_⟩⟩
  · rw [exec_l3Send_session ha htx, l2SendBytes_refused (frameFor_refused href), runCommand_complete]
    rfl
  · have hend : afterEmit (emitted s n frame) .l3Send frame =
        { sentFrame s n frame with l3idle := (sentFrame s n frame).now }.complete .ok := rfl
    rw [exec_l3Send_emits ha htx hf hin, runOver_emit hn hn', hend, runOver_complete, afterFrame_eq]
    rfl
  · rw [exec_l3Send_emits ha htx hf hin, runOver_emit_fails hn hn' hk he]

/-! ### L3_RECV on a framed link (R251) -/

theorem exec_l3Recv_framed {s : State} (ha : s.l3active = true) (hcap : s.has .doesL2Frame = true)
    (hroom : s.msgq.length < 16) :
    exec .l3Recv s = .next (runOver s.inputs (beginReceive (s.setRetries 0) .l3Framed)) := by
  have hfree : ¬s.msgq.length ≥ Config.msgqCap := Nat.not_le.mpr hroom
  have hcap' : (s.setRetries 0).has .doesL2Frame = true := hcap
  have hbegin : beginL3Recv s = beginReceive (s.setRetries 0) .l3Framed := by
    simp only [beginL3Recv, ha, if_neg hfree, hcap', if_true]
  have hinputs : (beginReceive (s.setRetries 0) .l3Framed).inputs = s.inputs :=
    (beginReceive_stretch (c := .l3Framed) (Stretch.refl _ (s.setRetries 0))).inputs
  rw [exec, execL3Recv, hbegin, runCommand, hinputs]

/-- Settles O54: the framed receive beside that of RECV, which leaves L3BUF as it is. -/
theorem sessionRecvFramed : Obligations.SessionRecvFramed := by
  intro s t ha hl hcap hroom hexec hidle
  refine ⟨?_, (exec_frame hexec).l3buf.resolve_left (by decide)⟩
  rw [exec_recv_up hl, Host.Outcome.next.injEq] at hexec
  have hbeside : (s.setRetries 0).beside (Receiver.l3Framed.queue []) id s.estate = s.setRetries 0 := rfl
  have hends := receive_ends .l3Framed [] (s.setRetries 0) s.estate s.inputs
    (by rw [hexec]; exact hidle)
  rw [hexec, hbeside] at hends
  rw [exec_l3Recv_framed ha hcap hroom, Host.Outcome.next.injEq]
  exact hends

end Sys2Proof.Machine
end

section

/-! ## L3_RECV on the byte path, one read after another -/

namespace Sys2Proof.Machine

open Claims

/-! ### The verdict on the bytes in L3BUF (R247, R254) -/

theorem toCode_eq_timeout {e : L0Err} : e.toCode = .timeout ↔ e = .timeout := by
  cases e <;> decide

/-- What follows a reassembly in L3_PROBE and in L3_NORMAL: the command ends on BadData or on a message,
and else `next` is entered (R254). -/
def byteVerdict (next : State → ByteRun → State) (x : State × ByteRun × Bool) : State :=
  if x.2.2 = true then byteFinish x.1 x.2.1 .badData
  else if x.2.1.produced ≠ [] then byteFinish x.1 x.2.1 .ok
  else next x.1 x.2.1

theorem probeStep_eq_verdict (v : State) (r : ByteRun) :
    probeStep v r = byteVerdict enterNormal (byteStep v r) := probeStep_eq v r

theorem onL3Normal_eq_verdict (v : State) (r : ByteRun) (d : List Byte) :
    onL3Normal v r (.data d) = byteVerdict enterDrain (byteStep (v.takeBytes d) r) :=
  onL3Normal_data v r d

/-! What L3_NORMAL and L3_DRAIN make of the bytes does not depend on the engine state. -/

theorem onL3Normal_withEstate (v : State) (e : EState) (r : ByteRun) (d : List Byte) :
    onL3Normal { v with estate := e } r (.data d) = onL3Normal v r (.data d) := by
  rw [onL3Normal_data, onL3Normal_data]
  rfl

theorem onL3Drain_withEstate (v : State) (e : EState) (r : ByteRun) (d : List Byte) :
    onL3Drain { v with estate := e } r (.data d) = onL3Drain v r (.data d) := by
  rw [onL3Drain_data, onL3Drain_data]
  rfl

section Verdict

variable {v : State} {r : ByteRun} {c : ByteCaller} {room : Nat} {out : List Message}
  {next : State → ByteRun → State}

theorem byteStep_partial (h : Partial v.params v.l3buf) : byteStep v r = (v, r, false) := by
  simp only [byteStep, reassemble_partial v.now h, List.append_nil]

/-- Bytes that are one whole message are sliced off, where a place is left. -/
theorem byteStep_oneMessage (h : WholeMessage v.params v.l3buf) (hroom : out.length < room) :
    byteStep v ⟨c, room, out⟩ =
      ({ v with l3buf := [] }, ⟨c, room, out ++ [messageL3 v.now v.l3buf]⟩, false) := by
  obtain ⟨k, hk⟩ : ∃ k, room - out.length = k + 1 := ⟨room - out.length - 1, by omega⟩
  simp only [byteStep, hk, reassemble_oneMessage h]
  rfl

theorem byteVerdict_partial (h : Partial v.params v.l3buf) (hr : r.produced = []) :
    byteVerdict next (byteStep v r) = next v r := by
  rw [byteStep_partial h]
  exact if_neg (not_not.mpr hr)

variable {ms : List (List Byte)} {d : List Byte} (hms : ∀ m ∈ ms, WholeMessage v.params m)
  (hbuf : v.l3buf = ms.flatten ++ d)
include hms hbuf

theorem byteStep_messages (hstop : Partial v.params d ∨ room - out.length ≤ ms.length) :
    byteStep v ⟨c, room, out⟩ =
      ({ v with l3buf := (ms.drop (room - out.length)).flatten ++ d },
        ⟨c, room, out ++ (ms.take (room - out.length)).map (messageL3 v.now)⟩, false) := by
  simp only [byteStep, hbuf, reassemble_stops v.now hms hstop]

theorem byteStep_badData (hroom : ms.length < room - out.length)
    (hd : expectedLength v.params d = .bad) :
    byteStep v ⟨c, room, out⟩ =
      ({ v with l3buf := afterBadData v.params d },
        ⟨c, room, out ++ (ms.map (messageL3 v.now) ++ [l3errMsg v.now])⟩, true) := by
  simp only [byteStep, hbuf, reassemble_badData v.now hms hroom hd]

theorem byteVerdict_messages (hne : ms ≠ []) (hroom : 0 < room)
    (hstop : Partial v.params d ∨ room ≤ ms.length) :
    byteVerdict next (byteStep v ⟨c, room, []⟩) =
      byteFinish { v with l3buf := (ms.drop room).flatten ++ d }
        ⟨c, room, (ms.take room).map (messageL3 v.now)⟩ .ok := by
  have hsliced : (ms.take room).map (messageL3 v.now) ≠ [] := by
    simp [hne, Nat.ne_of_gt hroom]
  rw [byteStep_messages (out := []) hms hbuf hstop]
  exact if_pos hsliced

end Verdict

/-! ### The state between two reads -/

/-- t with the operations `es` recorded, `buf` in L3BUF and the idle time w. -/
def State.holding (t : State) (w : Word) (buf : List Byte) (es : List L0Event) : State :=
  { t.recorded es with l3buf := buf, l3idle := w }

section Holding

variable (t : State) (w : Word) (buf d : List Byte) (es es' : List L0Event)

theorem holding_takeBytes :
    (t.holding w buf es).takeBytes d = t.holding t.now (buf ++ d) es := rfl

theorem holding_recorded : (t.holding w buf es).recorded es' = t.holding w buf (es ++ es') := by
  simp only [State.holding, State.recorded, List.append_assoc]

end Holding

/-- s once L3_RECV has ended with the code e on the byte path: `out` appended, `buf` left in L3BUF, the
operations `es` recorded (R255). -/
def pathEnded (s : State) (e : ErrCode) (w : Word) (buf : List Byte) (out : List Message)
    (es : List L0Event) (rest : List Input) : State :=
  { ended s e with
    retries := 0
    arb := .idle
    l3idle := w
    l3buf := buf
    msgq := s.msgq ++ out
    history := s.history ++ es
    inputs := rest }

theorem runOver_byteFinish (s : State) (w : Word) (buf : List Byte) (es : List L0Event) (room : Nat)
    (out : List Message) (e : ErrCode) (rest : List Input) :
    runOver rest (byteFinish ((s.setRetries 0).holding w buf es) ⟨.l3Recv, room, out⟩ e) =
      pathEnded s e w buf out es rest :=
  runOver_complete _ e rest

/-! ### The reads (R253, R254) -/

section Reads

variable {t : State} (hp : t.proto ≠ some .vag)
include hp

theorem l3Read_open (hlen : t.l3buf.length < 64) (n : Nat) (k : RecvKont) (onErr : ErrCode → State) :
    l3Read t n k onErr = t.issueRecv (64 - t.l3buf.length) n k := by
  have hopen : ¬t.l3buf.length ≥ Config.l3bufCap := Nat.not_le.mpr hlen
  rw [l3Read, if_neg hp, if_neg hopen, Config.l3bufCap]

/-- A full L3BUF is not read: L3_PROBE goes on as after a Timeout (R253, R254). -/
theorem enterProbe_full (hlen : t.l3buf.length = 64) (r : ByteRun) : enterProbe t r = probeStep t r := by
  have hfull : t.l3buf.length ≥ Config.l3bufCap := Nat.le_of_eq hlen.symm
  rw [enterProbe, l3Read, if_neg hp, if_pos hfull, probeError, if_pos rfl]

variable {w : Word} {buf : List Byte} {es : List L0Event} {r : ByteRun}

theorem enterNormal_open (hlen : buf.length < 64) :
    enterNormal (t.holding w buf es) r =
      (t.holding w buf es).issueRecv (64 - buf.length) t.timeoutMs (.l3Normal r) :=
  l3Read_open (t := t.holding w buf es) hp hlen _ _ _

theorem enterDrain_open (hlen : buf.length < 64) :
    enterDrain (t.holding w buf es) r =
      (t.holding w buf es).issueRecv (64 - buf.length) 5 (.l3Drain r) :=
  l3Read_open (t := t.holding w buf es) hp hlen _ _ _

/-- A read of L3_NORMAL that brings bytes. -/
theorem runOver_normal_got {d : List Byte} (hd : d ≠ []) (hfit : (buf ++ d).length ≤ 64)
    (evs : List Input) :
    runOver (got d ++ evs) (enterNormal (t.holding w buf es) r) =
      runOver evs (byteVerdict enterDrain (byteStep
        (t.holding t.now (buf ++ d) (es ++ [dataEvent (64 - buf.length) t.timeoutMs d])) r)) := by
  have hpos := List.length_pos_of_ne_nil hd
  rw [List.length_append] at hfit
  rw [enterNormal_open hp (by omega)]
  refine runOver_got hd (by omega) (fun e => ?_) evs
  rw [holding_recorded, ← holding_takeBytes t w, ← onL3Normal_eq_verdict]
  exact onL3Normal_withEstate _ e r d

/-- A read of L3_DRAIN that brings bytes. -/
theorem runOver_drain_got {d : List Byte} (hd : d ≠ []) (hfit : (buf ++ d).length ≤ 64) {v : State}
    {r' : ByteRun} {bad : Bool}
    (hstep : byteStep (t.holding t.now (buf ++ d) (es ++ [dataEvent (64 - buf.length) 5 d])) r =
      (v, r', bad)) (evs : List Input) :
    runOver (got d ++ evs) (enterDrain (t.holding w buf es) r) =
      runOver evs (if bad = true then byteFinish v r' .badData else enterDrain v r') := by
  have hpos := List.length_pos_of_ne_nil hd
  rw [List.length_append] at hfit
  rw [enterDrain_open hp (by omega)]
  have hact : onL3Drain (t.holding w buf (es ++ [dataEvent (64 - buf.length) 5 d])) r (.data d) =
      if bad = true then byteFinish v r' .badData else enterDrain v r' := by
    rw [onL3Drain_data, holding_takeBytes, hstep]
  refine runOver_got hd (by omega) (fun e => ?_) evs
  rw [holding_recorded, ← hact]
  exact onL3Drain_withEstate _ e r d

end Reads

end Sys2Proof.Machine
end

section

/-! ## The stages of L3_RECV on the byte path: the poll, L3_NORMAL and L3_DRAIN -/

namespace Sys2Proof.Machine

open Claims

/-! ### The record of the reads -/

theorem chunkReads_append (t n : Nat) (cs ds : List (List Byte)) :
    chunkReads t n t (cs ++ ds) = chunkReads t n t cs ++ chunkReads t (n + cs.flatten.length) t ds := by
  induction cs generalizing n with
  | nil => rfl
  | cons c cs ih =>
    rw [List.cons_append, chunkReads, ih, chunkReads, List.flatten_cons, List.length_append,
      Nat.add_assoc, List.cons_append]

/-- The reads of L3_DRAIN go on where those before them ended. -/
theorem byteReads_append (s : State) (a b : List Byte) (cs ds : List (List Byte)) :
    byteReads s a b (cs ++ ds) = byteReads s a b cs ++
      chunkReads 5 (s.l3buf ++ a ++ (b :: cs).flatten).length 5 ds := by
  rw [byteReads, chunkReads, chunkReads_append, byteReads, chunkReads, List.flatten_cons,
    List.length_append, List.length_append, List.length_append, List.cons_append, List.cons_append,
    Nat.add_assoc (s.l3buf.length + a.length)]

/-! ### The command begins, and polls (R250, R254) -/

theorem exec_l3Recv_enters {s : State} (h : BytePath s) {evs : List Input} (hin : s.inputs = evs) :
    exec .l3Recv s = .next (runOver evs (enterProbe (s.setRetries 0) ⟨.l3Recv, roomLeft s, []⟩)) := by
  obtain ⟨ha, hcap, -, hroom⟩ := h
  have hfree : ¬s.msgq.length ≥ Config.msgqCap := Nat.not_le.mpr hroom
  have hcap' : (s.setRetries 0).has .doesL2Frame = false := hcap
  have hbegin : beginL3Recv s = enterProbe (s.setRetries 0) ⟨.l3Recv, roomLeft s, []⟩ := by
    simp only [beginL3Recv, ha, if_neg hfree, hcap', if_true, Bool.false_eq_true, if_false]
    rfl
  have hinputs : (enterProbe (s.setRetries 0) ⟨.l3Recv, roomLeft s, []⟩).inputs = evs :=
    (enterProbe_stretch (i := .l3Recv) (Stretch.refl _ (s.setRetries 0)) rfl).inputs.trans hin
  rw [exec, execL3Recv, hbegin, runCommand, hinputs]

/-- s once its poll has been answered with the bytes a, or with a Timeout where there are none (R254). -/
def afterPoll (s : State) (a : List Byte) : State :=
  (s.setRetries 0).holding (if a = [] then s.l3idle else s.now) (s.l3buf ++ a) [pollEvent s a]

section Stages

variable {s : State} (h : BytePath s) {a : List Byte}
include h

theorem proto_ne_vag_of_bytePath : (s.setRetries 0).proto ≠ some .vag := h.2.2.1

theorem roomLeft_pos_of_bytePath : 0 < roomLeft s := Nat.sub_pos_of_lt h.2.2.2

theorem exec_l3Recv_polls (hlen : s.l3buf.length < 64) {evs : List Input} (hin : s.inputs = evs) :
    exec .l3Recv s = .next (runOver evs
      ((s.setRetries 0).issueRecv (64 - s.l3buf.length) 0 (.l3Probe ⟨.l3Recv, roomLeft s, []⟩))) := by
  rw [exec_l3Recv_enters h hin, enterProbe,
    l3Read_open (t := s.setRetries 0) (proto_ne_vag_of_bytePath h) hlen]
  rfl

/-- After the poll the bytes in L3BUF are reassembled (R253, R254). -/
theorem exec_l3Recv_polled (hlen : s.l3buf.length < 64) (hfit : (s.l3buf ++ a).length ≤ 64)
    {evs : List Input} (hin : s.inputs = polled a ++ evs) :
    exec .l3Recv s = .next (runOver evs
      (byteVerdict enterNormal (byteStep (afterPoll s a) ⟨.l3Recv, roomLeft s, []⟩))) := by
  rw [exec_l3Recv_polls h hlen hin, ← probeStep_eq_verdict, Host.Outcome.next.injEq]
  by_cases ha : a = []
  · subst ha
    have hpoll : afterPoll s [] = (s.setRetries 0).recorded [recvErr (64 - s.l3buf.length) 0 .timeout] := by
      simp only [afterPoll, pollEvent, if_true, List.append_nil]
      rfl
    rw [polled, if_pos rfl, hpoll]
    refine runOver_gotErr (fun e => ?_) evs
    exact probeStep_withEstate ((s.setRetries 0).recorded _) e _
  · have hpoll : afterPoll s a =
        ((s.setRetries 0).recorded [dataEvent (64 - s.l3buf.length) 0 a]).takeBytes a := by
      simp only [afterPoll, pollEvent, if_neg ha]
      rfl
    rw [List.length_append] at hfit
    rw [polled, if_neg ha, hpoll]
    refine runOver_got ha (by omega) (fun e => ?_) evs
    exact probeStep_withEstate (((s.setRetries 0).recorded _).takeBytes a) e _

/-! ### L3_NORMAL -/

variable (hpart : Partial s.params (s.l3buf ++ a))
include hpart

theorem exec_l3Recv_normal {evs : List Input} (hin : s.inputs = polled a ++ evs) :
    exec .l3Recv s = .next
      (runOver evs (enterNormal (afterPoll s a) ⟨.l3Recv, roomLeft s, []⟩)) := by
  rw [exec_l3Recv_polled h (length_lt_of_partial (partial_of_append hpart))
    (Nat.le_of_lt (length_lt_of_partial hpart)) hin, byteVerdict_partial hpart rfl]

variable {b : List Byte} (hb : b ≠ [])
include hb

/-- The bytes of the read of L3_NORMAL join those of the poll, and are reassembled (R253, R254). -/
theorem exec_l3Recv_normalRead (hfit : (s.l3buf ++ a ++ b).length ≤ 64) {evs : List Input}
    (hin : s.inputs = polled a ++ (got b ++ evs)) :
    exec .l3Recv s = .next (runOver evs (byteVerdict enterDrain (byteStep
      ((s.setRetries 0).holding s.now (s.l3buf ++ a ++ b) (byteReads s a b []))
      ⟨.l3Recv, roomLeft s, []⟩))) := by
  rw [exec_l3Recv_normal h hpart hin, afterPoll,
    runOver_normal_got (t := s.setRetries 0) (proto_ne_vag_of_bytePath h) hb hfit, List.length_append]
  rfl

end Stages

/-! ### L3_DRAIN -/

/-- s in L3_DRAIN, with `buf` in L3BUF, the operations `es` recorded and the messages `out` sliced. -/
def draining (s : State) (buf : List Byte) (out : List Message) (es : List L0Event) : State :=
  enterDrain ((s.setRetries 0).holding s.now buf es) ⟨.l3Recv, roomLeft s, out⟩

section Drain

variable {s : State} (h : BytePath s) {buf : List Byte} {out : List Message} {es : List L0Event}
include h

/-- Reads whose bytes are no whole message yet. -/
theorem runOver_drain_partial {cs : List (List Byte)} (hne : ∀ c ∈ cs, c ≠ [])
    (hpart : Partial s.params (buf ++ cs.flatten)) (evs : List Input) :
    runOver ((cs.map got).flatten ++ evs) (draining s buf out es) =
      runOver evs (draining s (buf ++ cs.flatten) out (es ++ chunkReads 5 buf.length 5 cs)) := by
  induction cs generalizing buf es with
  | nil => simp only [List.map_nil, List.flatten_nil, List.nil_append, chunkReads, List.append_nil]
  | cons c cs ih =>
    obtain ⟨hc, hne⟩ := List.forall_mem_cons.mp hne
    rw [List.flatten_cons, ← List.append_assoc] at hpart
    have hread := partial_of_append hpart
    have hstep := byteStep_partial (r := ⟨.l3Recv, roomLeft s, out⟩)
      (v := (s.setRetries 0).holding s.now (buf ++ c) (es ++ [dataEvent (64 - buf.length) 5 c])) hread
    rw [List.map_cons, List.flatten_cons, List.append_assoc, draining,
      runOver_drain_got (t := s.setRetries 0) (proto_ne_vag_of_bytePath h) hc
        (Nat.le_of_lt (length_lt_of_partial hread)) hstep]
    refine (ih hne hpart).trans ?_
    rw [List.flatten_cons, List.append_assoc, List.append_assoc, List.length_append]
    rfl

/-- Reads that complete a message: it is sliced, and the command stays in L3_DRAIN (R254). -/
theorem runOver_drain_message {cs : List (List Byte)} (hcs : cs ≠ []) (hne : ∀ c ∈ cs, c ≠ [])
    (hm : WholeMessage s.params (buf ++ cs.flatten)) (hroom : out.length < roomLeft s)
    (evs : List Input) :
    runOver ((cs.map got).flatten ++ evs) (draining s buf out es) =
      runOver evs (draining s [] (out ++ [messageL3 s.now (buf ++ cs.flatten)])
        (es ++ chunkReads 5 buf.length 5 cs)) := by
  obtain ⟨front, last, rfl⟩ := (List.eq_nil_or_concat' cs).resolve_left hcs
  obtain ⟨hfront, hlast⟩ := List.forall_mem_append.mp hne
  have hbytes : buf ++ (front ++ [last]).flatten = buf ++ front.flatten ++ last := by simp
  rw [hbytes] at hm ⊢
  have hd : last ≠ [] := hlast last (List.mem_singleton_self last)
  have hstep := byteStep_oneMessage (c := .l3Recv)
    (v := (s.setRetries 0).holding s.now (buf ++ front.flatten ++ last)
      (es ++ chunkReads 5 buf.length 5 front ++
        [dataEvent (64 - (buf ++ front.flatten).length) 5 last])) hm hroom
  rw [List.map_append, List.flatten_append, List.append_assoc,
    runOver_drain_partial h hfront (hm.partial_of_append hd), draining, List.map_singleton,
    List.flatten_singleton, runOver_drain_got (t := s.setRetries 0) (proto_ne_vag_of_bytePath h) hd
      (expectedLength_ok_bounds hm).2 hstep, chunkReads_append, List.length_append, ← List.append_assoc]
  rfl

/-- Reads that bring further messages, each in any chunks. -/
theorem runOver_drain_messages {more : List (List (List Byte))}
    (hne : ∀ c ∈ more.flatten, c ≠ []) (hms : ∀ x ∈ more, WholeMessage s.params x.flatten)
    (hroom : out.length + more.length ≤ roomLeft s) (evs : List Input) :
    runOver ((more.flatten.map got).flatten ++ evs) (draining s [] out es) =
      runOver evs (draining s [] (out ++ (more.map List.flatten).map (messageL3 s.now))
        (es ++ (more.map (chunkReads 5 0 5)).flatten)) := by
  induction more generalizing out es with
  | nil => simp only [List.map_nil, List.flatten_nil, List.nil_append, List.append_nil]
  | cons x more ih =>
    obtain ⟨hx, hms⟩ := List.forall_mem_cons.mp hms
    rw [List.flatten_cons] at hne
    obtain ⟨hxne, hne⟩ := List.forall_mem_append.mp hne
    have hchunks : x ≠ [] := by
      rintro rfl
      exact hx.ne_nil rfl
    rw [List.length_cons] at hroom
    have hroom' : (out ++ [messageL3 s.now x.flatten]).length + more.length ≤ roomLeft s := by
      rw [List.length_append, List.length_singleton]
      omega
    rw [List.flatten_cons, List.map_append, List.flatten_append, List.append_assoc,
      runOver_drain_message (buf := []) h hchunks hxne hx (by omega), List.nil_append,
      ih hne hms hroom']
    simp only [List.map_cons, List.flatten_cons, List.append_assoc, List.singleton_append,
      List.length_nil]

/-- An error ends L3_DRAIN; a Timeout with OK, where a message was sliced (R254, R255). -/
theorem runOver_drain_err {e : L0Err} (hlen : buf.length < 64) (rest : List Input) :
    runOver (gotErr e ++ rest) (draining s buf out es) =
      pathEnded s (if e = .timeout ∧ out ≠ [] then .ok else e.toCode) s.now buf out
        (es ++ [recvErr (64 - buf.length) 5 e]) rest := by
  rw [draining, enterDrain_open (t := s.setRetries 0) (proto_ne_vag_of_bytePath h) hlen,
    ← runOver_byteFinish s s.now buf _ (roomLeft s) out]
  refine runOver_gotErr (fun e' => ?_) rest
  rw [holding_recorded]
  simp only [onRecv, onL3Drain, drainError, toCode_eq_timeout]
  split <;> rfl

variable {a b : List Byte} (hb : b ≠ [])
include hb

/-- L3_DRAIN begins after a read of L3_NORMAL that completed no message (R254). -/
theorem exec_l3Recv_draining (hpart : Partial s.params (s.l3buf ++ a ++ b)) {evs : List Input}
    (hin : s.inputs = polled a ++ (got b ++ evs)) :
    exec .l3Recv s =
      .next (runOver evs (draining s (s.l3buf ++ a ++ b) [] (byteReads s a b []))) := by
  rw [exec_l3Recv_normalRead h (partial_of_append hpart) hb
    (Nat.le_of_lt (length_lt_of_partial hpart)) hin, byteVerdict_partial hpart rfl]
  rfl

/-- The reads of L3_NORMAL and L3_DRAIN whose bytes are no whole message yet. -/
theorem exec_l3Recv_partial {cs : List (List Byte)} (hne : ∀ c ∈ cs, c ≠ [])
    (hpart : Partial s.params (s.l3buf ++ a ++ (b :: cs).flatten)) {evs : List Input}
    (hin : s.inputs = byteScript a b cs ++ evs) :
    exec .l3Recv s = .next (runOver evs
      (draining s (s.l3buf ++ a ++ (b :: cs).flatten) [] (byteReads s a b cs))) := by
  have hscript : s.inputs = polled a ++ (got b ++ ((cs.map got).flatten ++ evs)) := by
    simp only [hin, byteScript, List.map_cons, List.flatten_cons, List.append_assoc]
  have hreads := byteReads_append s a b [] cs
  rw [List.flatten_cons, ← List.append_assoc] at hpart ⊢
  rw [List.flatten_singleton, List.nil_append] at hreads
  rw [exec_l3Recv_draining h hb (partial_of_append hpart) hscript, runOver_drain_partial h hne hpart,
    hreads]

end Drain

end Sys2Proof.Machine
end

section

/-! ## The L3_RECV statements of the byte path -/

namespace Sys2Proof.Machine

open Claims

/-! ### L3_RECV that ends with no message (R250, R254, R255) -/

theorem exec_l3Recv_queueFull {s : State} (ha : s.l3active = true) (hfull : 16 ≤ s.msgq.length) :
    exec .l3Recv s = .next (ended s .noMemory) := by
  have hfull' : s.msgq.length ≥ Config.msgqCap := hfull
  have hbegin : beginL3Recv s = s.complete .noMemory := by
    simp only [beginL3Recv, ha, if_pos hfull', if_true]
  rw [exec, execL3Recv, hbegin, runCommand_complete]
  rfl

theorem byteFinish_nothing (v : State) (room : Nat) (e : ErrCode) :
    byteFinish v ⟨.l3Recv, room, []⟩ e = v.complete e := by
  simp only [byteFinish, List.append_nil]

/-- Settles O53: the full queue, and an error in each state of the byte path. -/
theorem sessionRecvNothing : Obligations.SessionRecvNothing := by
  refine ⟨fun s ha hfull => exec_l3Recv_queueFull ha hfull, fun s a e rest h =>
    ⟨fun hlen he hin => ?_, fun hpart hin => ?_, fun b cs hne hpart hin => ?_⟩⟩
  · have hcode : e.toCode ≠ .timeout := mt toCode_eq_timeout.mp he
    rw [exec_l3Recv_polls h hlen hin, runOver_recv_fails (fun v time => ?_)]
    · rfl
    · exact (if_neg hcode).trans (byteFinish_nothing v _ _)
  · have hfails : ∀ v time, onRecv v (.err e) time (.l3Normal ⟨.l3Recv, roomLeft s, []⟩) =
        v.complete e.toCode := fun v _ => byteFinish_nothing v _ _
    rw [List.append_assoc] at hin
    rw [exec_l3Recv_normal h hpart hin, afterPoll,
      enterNormal_open (t := s.setRetries 0) (proto_ne_vag_of_bytePath h) (length_lt_of_partial hpart),
      runOver_recv_fails hfails, holding_recorded]
    rfl
  · obtain ⟨hb, hcs⟩ := List.forall_mem_cons.mp hne
    rw [List.append_assoc] at hin
    rw [exec_l3Recv_partial h hb hcs hpart hin, runOver_drain_err h (length_lt_of_partial hpart),
      if_neg (fun hout => hout.2 rfl), pathEnded, List.append_nil, ← List.append_assoc]
    rfl

/-! ### L3_RECV of bytes that no message can begin (R247, R248, R255) -/

theorem byteVerdict_badData {v : State} {ms : List (List Byte)} {d : List Byte} {room : Nat}
    {next : State → ByteRun → State} (hms : ∀ m ∈ ms, WholeMessage v.params m)
    (hbuf : v.l3buf = ms.flatten ++ d) (hroom : ms.length < room)
    (hd : expectedLength v.params d = .bad) :
    byteVerdict next (byteStep v ⟨.l3Recv, room, []⟩) =
      byteFinish { v with l3buf := afterBadData v.params d }
        ⟨.l3Recv, room, ms.map (messageL3 v.now) ++ [l3errMsg v.now]⟩ .badData := by
  rw [byteStep_badData (out := []) hms hbuf hroom hd]
  rfl

section BadData

variable {s : State} (h : BytePath s) {a : List Byte} {ms : List (List Byte)} {d : List Byte}
  (hms : ∀ m ∈ ms, WholeMessage s.params m) (hroom : ms.length < roomLeft s)
  (hd : expectedLength s.params d = .bad)

/-- s once L3_RECV has sliced `ms` and met the bytes d, which no message can begin (R247, R248). -/
def badDataEnded (s : State) (w : Word) (ms : List (List Byte)) (d : List Byte) (es : List L0Event)
    (rest : List Input) : State :=
  pathEnded s .badData w (afterBadData s.params d) (ms.map (messageL3 s.now) ++ [l3errMsg s.now]) es rest

include hms hroom hd

theorem runOver_verdict_badData {w : Word} {buf : List Byte} (hbuf : buf = ms.flatten ++ d)
    (next : State → ByteRun → State) (es : List L0Event) (rest : List Input) :
    runOver rest (byteVerdict next
        (byteStep ((s.setRetries 0).holding w buf es) ⟨.l3Recv, roomLeft s, []⟩)) =
      badDataEnded s w ms d es rest := by
  rw [byteVerdict_badData (v := (s.setRetries 0).holding w buf es) hms hbuf hroom hd]
  exact runOver_byteFinish s w _ es (roomLeft s) _ .badData rest

include h

/-- The last of the reads after the poll brings the bytes that no message can begin (R252). -/
theorem exec_l3Recv_badRead {b : List Byte} {cs : List (List Byte)} {rest : List Input}
    (hne : ∀ c ∈ b :: cs, c ≠ []) (hpart : Partial s.params (s.l3buf ++ a ++ (b :: cs).dropLast.flatten))
    (hbuf : s.l3buf ++ a ++ (b :: cs).flatten = ms.flatten ++ d)
    (hfit : (s.l3buf ++ a ++ (b :: cs).flatten).length ≤ 64)
    (hin : s.inputs = byteScript a b cs ++ rest) :
    exec .l3Recv s = .next (badDataEnded s s.now ms d (byteReads s a b cs) rest) := by
  obtain ⟨hb, hcs⟩ := List.forall_mem_cons.mp hne
  obtain rfl | ⟨front, last, rfl⟩ := List.eq_nil_or_concat' cs
  · have hscript : s.inputs = polled a ++ (got b ++ rest) := by simpa [byteScript] using hin
    rw [List.dropLast_singleton, List.flatten_nil, List.append_nil] at hpart
    rw [List.flatten_singleton] at hbuf hfit
    rw [exec_l3Recv_normalRead h hpart hb hfit hscript, runOver_verdict_badData hms hroom hd hbuf]
  · obtain ⟨hfront, hlast⟩ := List.forall_mem_append.mp hcs
    have hscript : s.inputs = byteScript a b front ++ (got last ++ rest) := by
      simpa [byteScript] using hin
    rw [← List.cons_append, List.dropLast_concat] at hpart
    rw [← List.cons_append, List.flatten_append, List.flatten_singleton, ← List.append_assoc]
      at hbuf hfit
    have hstep := byteStep_badData (c := .l3Recv) (out := []) (room := roomLeft s)
      (v := (s.setRetries 0).holding s.now (s.l3buf ++ a ++ (b :: front).flatten ++ last)
        (byteReads s a b front ++ [dataEvent (64 - (s.l3buf ++ a ++ (b :: front).flatten).length) 5 last]))
      hms hbuf hroom hd
    rw [exec_l3Recv_partial h hb hfront hpart hscript, draining, runOver_drain_got (t := s.setRetries 0)
      (proto_ne_vag_of_bytePath h) (hlast last (List.mem_singleton_self last)) hfit hstep, if_pos rfl,
      byteReads_append]
    exact congrArg Host.Outcome.next (runOver_byteFinish s s.now _ _ (roomLeft s) _ .badData rest)

end BadData

/-- Settles O52: the verdict on the bytes of the poll, and on those of the last read after it. -/
theorem sessionRecvBadData : Obligations.SessionRecvBadData := by
  intro s a rest h left u ms d hms hroom hd delivered
  have hleft : left d = afterBadData s.params d := by
    cases hpolicy : s.params.badData <;> simp only [left, afterBadData, hpolicy, List.drop_one]
  have hend : ∀ w es, badDataEnded s w ms d es rest =
      { u with l3idle := w, l3buf := left d, msgq := delivered, history := s.history ++ es } := by
    intro w es
    rw [hleft, badDataEnded, pathEnded, ← List.append_assoc]
    rfl
  refine ⟨fun hbuf hfit hlen hin => ?_, fun b cs hne hpart hbuf hfit hin => ?_⟩
  · rw [exec_l3Recv_polled h hlen hfit hin, afterPoll, runOver_verdict_badData hms hroom hd hbuf, hend]
  · rw [exec_l3Recv_badRead h hms hroom hd hne hpart hbuf hfit hin, hend]

end Sys2Proof.Machine
end

section

/-! ## L3_RECV of messages on the byte path -/

namespace Sys2Proof.Machine

open Claims

section Messages

variable {s : State} (h : BytePath s) {a b : List Byte} {ms : List (List Byte)} {tail : List Byte}
  (hne : ms ≠ []) (hms : ∀ m ∈ ms, WholeMessage s.params m)
  (hstop : Partial s.params tail ∨ roomLeft s ≤ ms.length)

/-- s once L3_RECV has sliced as many of the messages `ms` as MSGQ has room for; the rest stays in L3BUF
before the bytes `tail` (R247, R255). -/
def messagesEnded (s : State) (w : Word) (ms : List (List Byte)) (tail : List Byte)
    (es : List L0Event) (rest : List Input) : State :=
  pathEnded s .ok w ((ms.drop (roomLeft s)).flatten ++ tail)
    ((ms.take (roomLeft s)).map (messageL3 s.now)) es rest

include h hne hms hstop

theorem runOver_verdict_messages {w : Word} {buf : List Byte} (hbuf : buf = ms.flatten ++ tail)
    (next : State → ByteRun → State) (es : List L0Event) (rest : List Input) :
    runOver rest (byteVerdict next
        (byteStep ((s.setRetries 0).holding w buf es) ⟨.l3Recv, roomLeft s, []⟩)) =
      messagesEnded s w ms tail es rest := by
  rw [byteVerdict_messages (v := (s.setRetries 0).holding w buf es) hms hbuf hne
    (roomLeft_pos_of_bytePath h) hstop]
  exact runOver_byteFinish s w _ es (roomLeft s) _ .ok rest

/-- A full L3BUF holds the messages: no read, and no event (R253). -/
theorem exec_l3Recv_full (hbuf : s.l3buf = ms.flatten ++ tail) (hfull : s.l3buf.length = 64) :
    exec .l3Recv s = .next
      { ended s .ok with
        retries := 0
        l3buf := (ms.drop (roomLeft s)).flatten ++ tail
        msgq := s.msgq ++ (ms.take (roomLeft s)).map (messageL3 s.now) } := by
  rw [exec_l3Recv_enters h rfl, enterProbe_full (t := s.setRetries 0) (proto_ne_vag_of_bytePath h) hfull,
    probeStep_eq_verdict, byteVerdict_messages (v := s.setRetries 0) hms hbuf hne
    (roomLeft_pos_of_bytePath h) hstop]
  exact congrArg Host.Outcome.next (runOver_complete _ .ok s.inputs)

end Messages

section Drained

variable {s : State} (h : BytePath s) {a b : List Byte}
include h

/-- A message completed in L3_DRAIN, those that arrive there after it, the bytes `tail` of the next one,
and the error that ends the command (R252, R254, R255). -/
theorem exec_l3Recv_drained {cs tail : List (List Byte)} {more : List (List (List Byte))} {e : L0Err}
    {rest : List Input} {m : List Byte} (hm : WholeMessage s.params m)
    (hbytes : s.l3buf ++ a ++ b ++ cs.flatten = m) (hb : b ≠ []) (hcs : cs ≠ [])
    (hne : ∀ c ∈ cs ++ more.flatten ++ tail, c ≠ [])
    (hms : ∀ x ∈ more, WholeMessage s.params x.flatten) (hroom : more.length < roomLeft s)
    (hpart : Partial s.params tail.flatten)
    (hin : s.inputs =
      byteScript a b cs ++ ((more.flatten ++ tail).map got).flatten ++ gotErr e ++ rest) :
    exec .l3Recv s = .next
      (pathEnded s (if e = .timeout then .ok else e.toCode) s.now tail.flatten
        ((m :: more.map List.flatten).map (messageL3 s.now))
        (byteReads s a b cs ++ (more.map (chunkReads 5 0 5)).flatten ++ chunkReads 5 0 5 tail ++
          [recvErr (64 - tail.flatten.length) 5 e]) rest) := by
  obtain ⟨hne, htail⟩ := List.forall_mem_append.mp hne
  obtain ⟨hne, hmore⟩ := List.forall_mem_append.mp hne
  have hflat : cs.flatten ≠ [] := by
    obtain ⟨c, hc⟩ := List.exists_mem_of_ne_nil cs hcs
    exact fun hnil => hne c hc (List.flatten_eq_nil_iff.mp hnil c hc)
  have hwhole : WholeMessage s.params (s.l3buf ++ a ++ b ++ cs.flatten) := hbytes ▸ hm
  have hscript : s.inputs = polled a ++ (got b ++ ((cs.map got).flatten ++
      ((more.flatten.map got).flatten ++ ((tail.map got).flatten ++ (gotErr e ++ rest))))) := by
    simp only [hin, byteScript, List.map_cons, List.flatten_cons, List.map_append, List.flatten_append,
      List.append_assoc]
  have hreads := byteReads_append s a b [] cs
  rw [List.flatten_singleton, List.nil_append] at hreads
  have hroom' : [messageL3 s.now m].length + more.length ≤ roomLeft s :=
    (Nat.add_comm 1 more.length).trans_le hroom
  have hsliced : [messageL3 s.now m] ++ (more.map List.flatten).map (messageL3 s.now) ≠ [] :=
    List.cons_ne_nil _ _
  rw [exec_l3Recv_draining h hb (hwhole.partial_of_append hflat) hscript,
    runOver_drain_message (out := []) h hcs hne hwhole (roomLeft_pos_of_bytePath h), hbytes,
    List.nil_append, ← hreads, runOver_drain_messages h hmore hms hroom',
    runOver_drain_partial (buf := []) h htail hpart, List.nil_append,
    runOver_drain_err h (length_lt_of_partial hpart)]
  simp only [hsliced, ne_eq, not_false_eq_true, and_true]
  rfl

end Drained

/-- Settles O51: the messages in the poll, in a full L3BUF, in L3_NORMAL and in L3_DRAIN. -/
theorem sessionRecvMessage : Obligations.SessionRecvMessage := by
  intro s a b rest h u
  refine ⟨fun ms tail hne hms hstop => ⟨fun hbuf hfit hlen hin => ?_, fun hbuf hfull =>
    exec_l3Recv_full h hne hms hstop hbuf hfull, fun hb hpart hbuf hfit hin => ?_⟩,
    fun m cs tail more e _ hm hb hcs hbytes hne hmore hroom hpart hin => ?_⟩
  · rw [exec_l3Recv_polled h hlen hfit hin, afterPoll, runOver_verdict_messages h hne hms hstop hbuf]
    rfl
  · rw [List.append_assoc] at hin
    rw [exec_l3Recv_normalRead h hpart hb hfit hin, runOver_verdict_messages h hne hms hstop hbuf]
    rfl
  · rw [exec_l3Recv_drained h hm hbytes hb hcs hne (fun x hx => (hmore x hx).2) hroom hpart hin, pathEnded,
      ← List.append_assoc s.history, ← List.append_assoc s.history, ← List.append_assoc s.history]
    rfl

end Sys2Proof.Machine
end

section

/-! ## Commands out of their state (R293) -/

namespace Sys2Proof.Machine

open Claims

/-- A command that completes with IllegalCommand as it begins has no run, and changes nothing else
(R293). -/
theorem exec_eq_illegal_of_begin {i : Instr} {s : State}
    (h : beginCommand s i = .next (s.complete .illegalCommand)) :
    exec i s = .next (ended s .illegalCommand) := by
  rw [exec_eq_thenRun_beginCommand, h, thenRun_next, runCommand_complete]
  rfl

/-- Outside a session a command of the L3 session but L3_START begins with IllegalCommand (R293). -/
theorem beginCommand_outside_session {s : State} (ha : s.l3active = false) {i : Instr}
    (hi : i ∈ [Instr.l3Stop, .l3Send, .l3Recv, .l3Keepalive]) :
    beginCommand s i = .next (s.complete .illegalCommand) := by
  have hno : ¬s.l3active = true := by simp [ha]
  simp only [List.mem_cons, List.not_mem_nil, or_false] at hi
  obtain rfl | rfl | rfl | rfl := hi
  · exact if_neg hno
  · exact if_neg hno
  · exact congrArg Host.Outcome.next (if_neg hno)
  · exact congrArg Host.Outcome.next (if_neg hno)

/-- The mnemonics of the commands that are legal in every state (R293). -/
def alwaysLegal : List String :=
  ["NOP", "CKS_INIT", "CKS_ADD", "CKS_BUF", "CKS_CHECK", "CRC_INIT", "CRC_ADD", "CRC_BUF", "CRC_CHECK",
    "MSG_POP"]

/-- A command that is legal in every state ends with OK, or with BadLength where it reads TXBUF (R116,
R293). -/
theorem exec_alwaysLegal_err {i : Instr} {s t : State} (hi : i.mnemonic ∈ alwaysLegal)
    (h : exec i s = .next t) : t.err = .ok ∨ t.err = .badLength := by
  cases i with
  | nop | cksInit | cksAdd | crcInit | crcAdd | msgPop => cases h; exact .inl rfl
  | cksBuf | cksCheck | crcBuf | crcCheck =>
    obtain rfl | ⟨bs, -, rfl⟩ := onTxBytes_next h
    · exact .inr rfl
    · exact .inl rfl
  | start | stop | send | recv | request | l3Start | l3Stop | l3Send | l3Recv | l3Keepalive =>
    exact absurd hi (by decide)

theorem exec_alwaysLegal_err_ne {i : Instr} {s t : State} (hi : i.mnemonic ∈ alwaysLegal)
    (h : exec i s = .next t) : t.err ≠ .illegalCommand := by
  obtain herr | herr := exec_alwaysLegal_err hi h
  · rw [herr]; decide
  · rw [herr]; decide

/-- Settles O25: each refusal is the test that the command begins with. -/
theorem illegalOutOfState : Obligations.IllegalOutOfState := by
  intro s
  refine ⟨fun hdown => ?send, fun hup => ⟨?recv, ?request⟩, fun hnotDown => ?start, fun ha => ?stop,
    fun h => ?l3Start, fun ha i hi => ?session, fun i t hi h => exec_alwaysLegal_err_ne hi h⟩
  case send => exact exec_eq_illegal_of_begin (by simp only [beginCommand, beginSend, hdown])
  case recv => exact exec_eq_illegal_of_begin (congrArg Host.Outcome.next (if_pos hup))
  case request => exact exec_eq_illegal_of_begin (if_pos hup)
  case start => exact exec_eq_illegal_of_begin (congrArg Host.Outcome.next (if_pos hnotDown))
  case stop => exact (stopReleasesTheLink s).2 ha
  case l3Start => exact exec_eq_illegal_of_begin (if_pos h)
  case session => exact exec_eq_illegal_of_begin (beginCommand_outside_session ha hi)

end Sys2Proof.Machine
end
